-- ==== Sys2Proof/Word.lean ====
section
/-! DEFINITION. The word types of the block: a window byte, a 32-bit register, a millisecond count, a window offset. -/

namespace Sys2Proof

/-- One byte of the register window, and the width of `OP`, `STATUS` and `RDACC` (R22, R29). -/
abbrev Byte := BitVec 8

/-- A 32-bit register: `ARG`, `RESULT`, `CUR_ARG` (R22, R27). -/
abbrev Word := BitVec 32

/-- A value of the millisecond counter and of both timestamps: `W_MS` bits, and R8 decides `W_MS = 32`.
DESIGN CHOICE (log entry 13): the width is not generalised. -/
abbrev Ms := BitVec 32

/-- An offset of the register window, 0x0 to 0xF (R41). -/
abbrev Offset := BitVec 4

end Sys2Proof
end

