-- ==== Sys2Proof/Config.lean ====
section
/-! DEFINITION. What one block fixes (R8): the parameters with alternatives, the open parameters as constants without a value, and the free streams the draws of R14 read from. -/

namespace Sys2Proof

/-- `IRQ_RESUME_MODE` (R8): what the end of a byte operation does to `IE` (R93). -/
inductive IrqResumeMode where
  | enable   -- IE <- 1, the default
  | restore  -- IE <- IE_SAVED
deriving DecidableEq, Repr, Inhabited

/-- `SLEEP_ZERO_MODE` (R8): what a sleep cycle count of 0 means (R122). -/
inductive SleepZeroMode where
  | one        -- one cycle, the default
  | refuse     -- CmdError 3
  | underflow  -- 2 ^ UNDERFLOW_WIDTH cycles
deriving DecidableEq, Repr, Inhabited

/-- The values of `SLP_MODE` (R31). -/
inductive SleepMode where
  | powerDown
  | other
deriving DecidableEq, Repr, Inhabited

/-- The parameters of R8 that change what a command does. They stand in `State` as plain data that no step
changes, so that a statement about every state holds for every parameter value (log entry 6). -/
structure Params where
  irqResume      : IrqResumeMode
  sleepZero      : SleepZeroMode
  underflowWidth : Nat
deriving DecidableEq, Repr

namespace Config

/-- `IRQ_EN_RESET` (R8, R39): OPEN. -/
opaque irqEnReset : Bool

/-- `ADC_EN_RESET` (R8, R39): OPEN. -/
opaque adcEnReset : Bool

/-- `SLP_MODE_RESET` (R8, R39): OPEN. -/
opaque slpModeReset : SleepMode

/-- `UNDERFLOW_WIDTH` (R8, R122): OPEN. -/
opaque underflowWidth : Nat

/-- `WINDOW_BASE` (R8, R41): OPEN. No rule reads it: an access is named by its offset (R12). -/
opaque windowBase : Nat

/-- `I2C_DELAY_US` (R8, R83): OPEN. No rule reads it. -/
opaque i2cDelayUs : Nat

/-- The free stream behind `draw_sda()` (R14, R20): true is a high data line. -/
opaque drawSda : Nat → Bool

/-- The free stream behind `draw_ms()` (R14, R20). -/
opaque drawMs : Nat → Ms

/-- The free stream behind `draw_sync()` (R14, R20): true is "not synchronized". -/
opaque drawSync : Nat → Bool

/-- The free choice, at each step at which the PIT may tick (R131), whether it does. -/
opaque pitTicks : Nat → Bool

/-- The parameter values R8 states for this block; `UNDERFLOW_WIDTH` stays open. -/
def resetParams : Params :=
  { irqResume := .enable, sleepZero := .one, underflowWidth := underflowWidth }

/-- `N_INTERVALS` (R8, R108). -/
abbrev nIntervals : Nat := 14

/-- `DEFAULT_INTERVAL` (R8, R109): the 1-second setting. -/
def defaultInterval : Fin nIntervals := 8

/-- The PIT divisor index k selects, in cycles of its clock (R108). No step reads it (R175). -/
def pitDivisor (k : Fin nIntervals) : Nat := 2 ^ (k.val + 2)

end Config

end Sys2Proof
end

