-- ==== Sys2Proof/Syntax.lean ====
section
/-! DEFINITION. The nine commands of spec/opcode_table.json (R62), with the operands of R61. -/

namespace Sys2Proof

/-- One constructor per row of the opcode table. -/
inductive Instr where
  | delayBlocking (ms : Word)        -- 0x10, format W (R74)
  | delayPoll (ms : Word)            -- 0x11, format W (R75)
  | i2cInit                          -- 0x20, format N (R100)
  | i2cStart                         -- 0x21, format N (R101)
  | i2cStop                          -- 0x22, format N (R102)
  | i2cWriteByte (data : Byte)       -- 0x23, format B (R103)
  | i2cReadByte (ack : Bool)         -- 0x24, format A (R104); true sends an acknowledgment
  | sleepConfig (interval : Word)    -- 0x30, format W (R120)
  | sleep (cycles : Word)            -- 0x31, format W (R121)
deriving DecidableEq, Repr

end Sys2Proof
end

