-- ==== Sys2Proof/WellFormed.lean ====
section
/-! DEFINITION. Which commands may be issued. The operand types leave one check: a count of 0 under SLEEP_ZERO_MODE = REFUSE (R63, R122). -/

namespace Sys2Proof

/-- The command is one that issue accepts under this `SLEEP_ZERO_MODE` (R63). -/
def Instr.wf (mode : SleepZeroMode) : Instr → Bool
  | .delayBlocking _ => true
  | .delayPoll _ => true
  | .i2cInit => true
  | .i2cStart => true
  | .i2cStop => true
  | .i2cWriteByte _ => true
  | .i2cReadByte _ => true
  | .sleepConfig _ => true
  | .sleep n => !(mode == .refuse && n == 0)

end Sys2Proof
end

