-- ==== Sys2Proof/Decode.lean ====
section
/-! DEFINITION. The decoder of R63, total on every 40-bit command word, and the encoder, from the tables of R60 and R62. -/

namespace Sys2Proof

/-- Why a command word is not issued (R63, R127). -/
inductive CmdError where
  | illegalOpcode  -- code 1
  | reservedArg    -- code 2
  | zeroCycles     -- code 3
deriving DecidableEq, Repr

/-- The decoder of R63, written from its case list: opcode first, then reserved bits, then the zero count (R129). -/
def decode (mode : SleepZeroMode) (op : Byte) (arg : Word) : Except CmdError Instr :=
  if op = 0x10#8 then .ok (.delayBlocking arg)
  else if op = 0x11#8 then .ok (.delayPoll arg)
  else if op = 0x20#8 then if arg = 0#32 then .ok .i2cInit else .error .reservedArg
  else if op = 0x21#8 then if arg = 0#32 then .ok .i2cStart else .error .reservedArg
  else if op = 0x22#8 then if arg = 0#32 then .ok .i2cStop else .error .reservedArg
  else if op = 0x23#8 then
    if arg.extractLsb' 8 24 = 0#24 then .ok (.i2cWriteByte (arg.extractLsb' 0 8)) else .error .reservedArg
  else if op = 0x24#8 then
    if arg.extractLsb' 1 31 = 0#31 then .ok (.i2cReadByte (arg.getLsbD 0)) else .error .reservedArg
  else if op = 0x30#8 then .ok (.sleepConfig arg)
  else if op = 0x31#8 then
    if arg = 0#32 ∧ mode = .refuse then .error .zeroCycles else .ok (.sleep arg)
  else .error .illegalOpcode

/-- The decoder on a command word `CW[39:0] = {OP[7:0], ARG[31:0]}` (R59). -/
def decodeWord (mode : SleepZeroMode) (cw : BitVec 40) : Except CmdError Instr :=
  decode mode (cw.extractLsb' 32 8) (cw.extractLsb' 0 32)

/-- The five bytes of a command as the host writes them at offsets 0 to 4: `ARG0` to `ARG3`, then `OP` (R42, R45,
R59). Any other number of bytes is no command. -/
def decodeBytes (mode : SleepZeroMode) : List Byte → Option (Except CmdError Instr)
  | [a0, a1, a2, a3, op] => some (decode mode op (a3 ++ a2 ++ a1 ++ a0))
  | _ => none

/-- `OP` of a command (R62). -/
def Instr.opcode : Instr → Byte
  | .delayBlocking _ => 0x10#8
  | .delayPoll _ => 0x11#8
  | .i2cInit => 0x20#8
  | .i2cStart => 0x21#8
  | .i2cStop => 0x22#8
  | .i2cWriteByte _ => 0x23#8
  | .i2cReadByte _ => 0x24#8
  | .sleepConfig _ => 0x30#8
  | .sleep _ => 0x31#8

/-- `ARG` of a command, reserved bits 0 (R60). -/
def Instr.argument : Instr → Word
  | .delayBlocking ms => ms
  | .delayPoll ms => ms
  | .i2cInit => 0#32
  | .i2cStart => 0#32
  | .i2cStop => 0#32
  | .i2cWriteByte data => data.setWidth 32
  | .i2cReadByte ack => (BitVec.ofBool ack).setWidth 32
  | .sleepConfig interval => interval
  | .sleep cycles => cycles

/-- The command word of a command (R59). -/
def encode (i : Instr) : BitVec 40 := i.opcode ++ i.argument

/-- The five bytes of a command word, lowest offset first. -/
def commandBytes (w : Nat) : List Byte :=
  [BitVec.ofNat 8 w, BitVec.ofNat 8 (w / 2 ^ 8), BitVec.ofNat 8 (w / 2 ^ 16), BitVec.ofNat 8 (w / 2 ^ 24),
    BitVec.ofNat 8 (w / 2 ^ 32)]

/-- The command the decoder reads from a row's bits, numbered as the table numbers them (R59: `OP` is bits 39 to
32), under the parameter values of R8. -/
def decodeTableWord (nbits w : Nat) : Option Instr :=
  match decodeBytes Config.resetParams.sleepZero (commandBytes (w % 2 ^ nbits)) with
  | some (.ok i) => some i
  | some (.error _) => none
  | none => none

end Sys2Proof
end

