-- ==== Sys2Proof/Machine/State.lean ====
section
/-! DEFINITION. The state of the block (R22 to R37), the reasons a step can stop, and the state after reset (R39). -/

namespace Sys2Proof.Machine

/-- The modes of the clock and data pins (R34). -/
inductive PinMode where
  | released
  | driveLow
  | driveHigh
deriving DecidableEq, Repr

/-- `SEQ_STATE` (R27). -/
inductive SeqState where
  | idle
  | busy
deriving DecidableEq, Repr

/-- `PIT_CLKSEL` (R31). -/
inductive ClkSel where
  | none
  | lowfreqInternal
deriving DecidableEq, Repr

/-- The mark m of an event `SCL(m)` (R37). -/
inductive SclMark where
  | h
  | l
deriving DecidableEq, Repr

/-- The mark m of an event `SDA(m)` (R37). -/
inductive SdaMark where
  | lo
  | hi
  | rel
deriving DecidableEq, Repr

/-- The events of `TRACE`, one constructor per row of R37. -/
inductive Event where
  | cmd (op : Byte) (arg : Word)
  | err (code : BitVec 2)
  | done (result : Word)
  | scl (m : SclMark)
  | sda (m : SdaMark)
  | dly
  | smp (v : Bool)
  | irq (v : Bool)
  | pitClk
  | pitSync (b : Bool)
  | pitIe
  | pitPer (k : Fin Config.nIntervals)
  | pullups
  | slpEn
  | adc (v : Bool)
  | smodePd
  | sleep
  | ms (t : Ms)
  | tick
  | isr
  | wake
  | rd (off : Offset)
  | wr (off : Offset) (v : Byte)
deriving DecidableEq, Repr

/-- What the host may do at one of its steps (R12, R32, R158). `width` is in bytes. -/
inductive HostAction where
  | read (width : Nat) (off : Offset)
  | write (width : Nat) (off : Offset) (v : Byte)
  | setIe (v : Bool)
deriving DecidableEq, Repr

/-- One kind of draw (R14): the values the environment is to give next, and, once that list is empty, the place
reached in the free stream of Config. The model's own field (log entry 5). -/
structure Feed (α : Type) where
  planned : List α
  ix      : Nat
deriving DecidableEq, Repr

/-- Everything the spec gives the machine, then the model's own fields (INVENTORY.md, State). -/
@[ext]
structure State where
  arg       : Word                        -- ARG (R23)
  op        : Byte                        -- OP (R24)
  result    : Word                        -- RESULT (R25)
  err       : BitVec 2                    -- STATUS.ERR (R26)
  seqState  : SeqState                    -- SEQ_STATE (R27)
  curOp     : Byte                        -- CUR_OP (R27)
  curArg    : Word                        -- CUR_ARG (R27)
  upc       : Nat                         -- UPC (R27, R28)
  rdacc     : Byte                        -- RDACC (R29)
  ackv      : Bool                        -- ACKV (R29)
  pollr     : Bool                        -- POLLR (R29)
  ie        : Bool                        -- IE (R31)
  ieSaved   : Bool                        -- IE_SAVED (R31)
  sclMode   : PinMode                     -- SCL_MODE (R34)
  sdaMode   : PinMode                     -- SDA_MODE (R34)
  pitClksel : ClkSel                      -- PIT_CLKSEL (R31)
  pitIe     : Bool                        -- PIT_IE (R31)
  pitPeriod : Option (Fin Config.nIntervals) -- PIT_PERIOD (R31)
  pitPend   : Bool                        -- PIT_PEND (R31)
  slpEn     : Bool                        -- SLP_EN (R31)
  slpMode   : SleepMode                   -- SLP_MODE (R31)
  adcEn     : Bool                        -- ADC_EN (R31)
  pullups   : Bool                        -- PULLUPS (R31)
  asleep    : Bool                        -- ASLEEP (R31)
  tsBlock   : Ms                          -- TS_BLOCK (R35)
  tsPoll    : Ms                          -- TS_POLL (R35)
  trace     : List Event                  -- TRACE (R37), oldest first
  params    : Params                      -- parameters of R8 (log entry 6)
  script    : List HostAction             -- the host's accesses to come (log entry 4)
  hostGot   : List Byte                   -- what the host's reads returned (log entry 12)
  sdaFeed   : Feed Bool                   -- draw_sda() (log entry 5)
  msFeed    : Feed Ms                     -- draw_ms() (log entry 5)
  syncFeed  : Feed Bool                   -- draw_sync() (log entry 5)
  tickFeed  : Feed Bool                   -- does the PIT tick now (log entry 2)
deriving DecidableEq, Repr

/-- The spec gives the block no fault (R126, R159). These name states that no run from reset reaches. -/
inductive Fault where
  /-- Raised by the sequencer's step when it is busy with a command word that decodes to no command, so that the
  spec gives it no micro-program. Safe: no run reaches it. -/
  | noCurrentCommand
  /-- Raised by the sequencer's step when it is busy with `UPC` beyond the end of the micro-program, where neither
  R57 nor R58 gives a step. Safe: no run reaches it. -/
  | upcPastEnd
deriving DecidableEq, Repr

/-- What the model refuses. -/
inductive Refusal where
  /-- Raised by exec's arm of an instruction that has no meaning yet. Safe: the run stops. -/
  | notModelled (mnemonic : String)
  /-- Raised by the host's step for an access of a width other than 1 byte (R46, R159). Safe: the run stops there. -/
  | accessWidth
deriving DecidableEq, Repr

/-- A feed with nothing planned, at the start of its free stream. -/
def Feed.fresh {α : Type} : Feed α := { planned := [], ix := 0 }

/-- The state after reset (R39). The three OPEN values are constants of Config without a value (log entry 7); the
model's own fields start empty, with the parameter values of R8. -/
def State.reset : State where
  arg := 0#32
  op := 0#8
  result := 0#32
  err := 0#2
  seqState := .idle
  curOp := 0#8
  curArg := 0#32
  upc := 0
  rdacc := 0#8
  ackv := false
  pollr := false
  ie := Config.irqEnReset
  ieSaved := false
  sclMode := .released
  sdaMode := .released
  pitClksel := .none
  pitIe := false
  pitPeriod := none
  pitPend := false
  slpEn := false
  slpMode := Config.slpModeReset
  adcEn := Config.adcEnReset
  pullups := false
  asleep := false
  tsBlock := 0#32
  tsPoll := 0#32
  trace := []
  params := Config.resetParams
  script := []
  hostGot := []
  sdaFeed := .fresh
  msFeed := .fresh
  syncFeed := .fresh
  tickFeed := .fresh

end Sys2Proof.Machine
end

