-- ==== Sys2Proof/Machine/Operands.lean ====
section
/-! DEFINITION. The operand forms of R61: duration, data bits, interval (R109), cycle count (R122), and elapsed time (R69). -/

namespace Sys2Proof.Machine

/-- A duration operand: `zext_W_MS(ARG)` (R61). -/
def duration (v : Word) : Ms := v.setWidth 32

/-- `clamp(x)` (R109): the index itself if it is at most 13, else the 1-second setting. -/
def clamp (x : Word) : Fin Config.nIntervals :=
  if h : x.toNat < Config.nIntervals then ⟨x.toNat, h⟩ else Config.defaultInterval

/-- `cycles(n)` (R122), the number of sleep cycles; none where the command is not issued. -/
def cycles (p : Params) (n : Word) : Option Nat :=
  if n = 0#32 then
    match p.sleepZero with
    | .one => some 1
    | .refuse => none
    | .underflow => some (2 ^ p.underflowWidth)
  else some n.toNat

/-- `elapsed(t, s) = (t - s) mod 2^W_MS`, unsigned (R69). -/
def elapsed (t s : Ms) : Ms := t - s

/-- Bit i of the byte operand of `I2C_WRITE_BYTE` (R103). -/
def dataBit (data : Byte) (i : Nat) : Bool := data.getLsbD i

end Sys2Proof.Machine
end

