-- ==== Sys2Proof/Machine/Flags.lean ====
section
/-! DEFINITION. The flags and flag-like values: STATUS.ERR codes (R127), RDACC's shift (R90), the delay comparisons (R72, R73), the values completion reads (R58), the enabling conditions (R33, R134). -/

namespace Sys2Proof.Machine

/-- The code `STATUS.ERR` takes (R127). -/
def errCode : CmdError → BitVec 2
  | .illegalOpcode => 1#2
  | .reservedArg => 2#2
  | .zeroCycles => 3#2

/-- `{RDACC[6:0], v}` (R90). -/
def shiftIn (acc : Byte) (v : Bool) : Byte := acc.extractLsb' 0 7 ++ BitVec.ofBool v

/-- `MS_WAIT` ends: the elapsed time reaches d (R72). -/
def waitEnds (t s d : Ms) : Bool := decide (d.toNat ≤ (elapsed t s).toNat)

/-- `MS_POLL` fires: the elapsed time exceeds d, strictly (R73). -/
def pollFires (t s d : Ms) : Bool := decide (d.toNat < (elapsed t s).toNat)

/-- `RESULT` of `I2C_WRITE_BYTE`: `zext_32(NOT ACKV)` (R58). -/
def ackResult (s : State) : Word := (BitVec.ofBool (!s.ackv)).setWidth 32

/-- `RESULT` of `I2C_READ_BYTE`: `zext_32(RDACC)` (R58). -/
def byteResult (s : State) : Word := s.rdacc.setWidth 32

/-- `RESULT` of `DELAY_POLL`: `zext_32(POLLR)` (R58). -/
def pollResult (s : State) : Word := (BitVec.ofBool s.pollr).setWidth 32

/-- `RESULT` of every other command (R58). -/
def zeroResult (_ : State) : Word := 0#32

/-- What `IRQ_OFF` leaves in `IE_SAVED`: `IE`, under `RESTORE` (R92). -/
def State.ieSavedByOff (s : State) : Bool :=
  match s.params.irqResume with
  | .enable => s.ieSaved
  | .restore => s.ie

/-- What `IRQ_ON` leaves in `IE` (R93). -/
def State.ieByOn (s : State) : Bool :=
  match s.params.irqResume with
  | .enable => true
  | .restore => s.ieSaved

/-- `PIT_RUNNING` (R33). -/
def State.pitRunning (s : State) : Bool := s.pitClksel == .lowfreqInternal && s.pitPeriod.isSome

/-- The ISR's enabling condition (R134). -/
def State.isrEnabled (s : State) : Bool := s.pitPend && (s.pitIe && s.ie)

end Sys2Proof.Machine
end

