-- ==== Sys2Proof/Machine/Ops.lean ====
section
/-! DEFINITION. The named operations on the state: the trace, the draws, the register window (R42 to R44), command error, issue and completion (R56, R58, R128), the PIT tick (R131) and the interrupt (R136). -/

namespace Sys2Proof.Machine

/-- `emit(e)` (R14). -/
def State.emit (s : State) (e : Event) : State := { s with trace := s.trace ++ [e] }

/-- `UPC <- UPC + 1` (R28). -/
def State.advance (s : State) : State := { s with upc := s.upc + 1 }

/-! ### Draws (R14, R20) -/

/-- The value a draw returns: the planned one, else the free stream's. -/
def Feed.now {α : Type} (free : Nat → α) (f : Feed α) : α :=
  match f.planned with
  | v :: _ => v
  | [] => free f.ix

/-- The feed after a draw. -/
def Feed.next {α : Type} (f : Feed α) : Feed α :=
  match f.planned with
  | _ :: rest => { f with planned := rest }
  | [] => { f with ix := f.ix + 1 }

/-- The value `draw_sda()` returns in this state (R14). -/
def State.sdaNow (s : State) : Bool := s.sdaFeed.now Config.drawSda

/-- The value `draw_ms()` returns in this state (R14). -/
def State.msNow (s : State) : Ms := s.msFeed.now Config.drawMs

/-- The value `draw_sync()` returns in this state (R14). -/
def State.syncNow (s : State) : Bool := s.syncFeed.now Config.drawSync

/-- The PIT takes this step: it may (R131), and the free choice says so. -/
def State.ticksNow (s : State) : Bool := s.pitRunning && s.tickFeed.now Config.pitTicks

/-- The free choice of a tick is used up, where there was one. -/
def State.tickChosen (s : State) : State :=
  if s.pitRunning then { s with tickFeed := s.tickFeed.next } else s

/-! ### The register window (R41 to R45) -/

/-- `STATUS[7:0]`: `ERR` in bits 1 and 0, the other bits hard-wired 0 (R26). -/
def State.status (s : State) : Byte := s.err.setWidth 8

/-- The byte a read of an offset returns (R43). -/
def State.windowRead (s : State) (off : Offset) : Byte :=
  if off = 0x0#4 then s.arg.extractLsb' 0 8
  else if off = 0x1#4 then s.arg.extractLsb' 8 8
  else if off = 0x2#4 then s.arg.extractLsb' 16 8
  else if off = 0x3#4 then s.arg.extractLsb' 24 8
  else if off = 0x4#4 then s.op
  else if off = 0x5#4 then s.status
  else if off = 0x8#4 then s.result.extractLsb' 0 8
  else if off = 0x9#4 then s.result.extractLsb' 8 8
  else if off = 0xA#4 then s.result.extractLsb' 16 8
  else if off = 0xB#4 then s.result.extractLsb' 24 8
  else 0#8

/-- `ARG` with the byte at an offset 0 to 3 replaced (R44); any other offset leaves it. -/
def setArgByte (arg : Word) (off : Offset) (v : Byte) : Word :=
  if off = 0x0#4 then arg.extractLsb' 8 24 ++ v
  else if off = 0x1#4 then arg.extractLsb' 16 16 ++ v ++ arg.extractLsb' 0 8
  else if off = 0x2#4 then arg.extractLsb' 24 8 ++ v ++ arg.extractLsb' 0 16
  else if off = 0x3#4 then v ++ arg.extractLsb' 0 24
  else arg

/-- `MemRead(off, 1)` (R43). The byte goes to the host (log entry 12). -/
def State.memRead (s : State) (off : Offset) : State :=
  { s with hostGot := s.hostGot ++ [s.windowRead off] }.emit (.rd off)

/-- `MemWrite(off, 1, v)` for an offset other than 4 (R44). -/
def State.memWrite (s : State) (off : Offset) (v : Byte) : State :=
  { s with arg := setArgByte s.arg off v }.emit (.wr off v)

/-- The host's write of `IE` (R32, R37). -/
def State.setIe (s : State) (v : Bool) : State := { s with ie := v }.emit (.irq v)

/-! ### Command error, issue and completion -/

/-- `OP <- v; emit(WR(0x4, v))`, the first two lines of issue (R56). -/
def State.writeOp (s : State) (v : Byte) : State := { s with op := v }.emit (.wr 0x4#4 v)

/-- `raise CmdError(code)` (R128). -/
def State.raiseCmdError (s : State) (e : CmdError) : State :=
  { s with err := errCode e }.emit (.err (errCode e))

/-- The rest of an accepted issue (R56). -/
def State.issue (s : State) (op : Byte) (arg : Word) : State :=
  { s with
    err := 0#2, curOp := op, curArg := arg, rdacc := 0#8, ackv := false, pollr := false, upc := 0,
    seqState := .busy }.emit (.cmd op arg)

/-- Completion (R58). -/
def State.complete (s : State) (r : Word) : State :=
  { s with result := r, seqState := .idle }.emit (.done r)

/-! ### The PIT and the interrupt -/

/-- A `PIT` tick (R131). -/
def State.tick (s : State) : State := { s with pitPend := true }.emit .tick

/-- The handler's one action: the pending condition is cleared (R136). -/
def State.clearPend (s : State) : State := { s with pitPend := false }.emit .isr

/-- The wake: the `SLP_WAIT` is complete (R136). -/
def State.wake (s : State) : State := ({ s with asleep := false }.advance).emit .wake

/-- The ISR: entry, the handler's one action and the return, one atomic step (R136, R139, R140). -/
def State.takeIsr (s : State) : State := if s.asleep then s.clearPend.wake else s.clearPend

end Sys2Proof.Machine
end

