-- ==== Sys2Proof/Machine/MicroOps.lean ====
section
/-! DEFINITION. The micro-ops (R71 to R73, R84 to R93, R110 to R119), the micro-op sequences (R94 to R99), and the step of a command: issue, micro-op or completion (R56 to R58). -/

namespace Sys2Proof.Machine

/-- The micro-ops, one constructor each. -/
inductive MicroOp where
  | sclH
  | sclL
  | sdaLo
  | sdaHi
  | sdaRel
  | dly
  | smpBit
  | smpAck
  | irqOff
  | irqOn
  | msStart
  | msWait (d : Ms)
  | msPoll (d : Ms)
  | pitClk
  | pitSync
  | pitIeSet
  | pitPer (k : Fin Config.nIntervals)
  | pullupsOn
  | slpEnable
  | adcOff
  | smodePd
  | slpWait
  | adcOn
deriving DecidableEq, Repr

/-- `SCL_H` (R84). -/
def microSclH (s : State) : State := ({ s with sclMode := .driveHigh }.emit (.scl .h)).advance

/-- `SCL_L` (R85). -/
def microSclL (s : State) : State := ({ s with sclMode := .driveLow }.emit (.scl .l)).advance

/-- `SDA_LO` (R86). -/
def microSdaLo (s : State) : State := ({ s with sdaMode := .driveLow }.emit (.sda .lo)).advance

/-- `SDA_HI` (R87). -/
def microSdaHi (s : State) : State := ({ s with sdaMode := .driveHigh }.emit (.sda .hi)).advance

/-- `SDA_REL` (R88). -/
def microSdaRel (s : State) : State := ({ s with sdaMode := .released }.emit (.sda .rel)).advance

/-- `DLY` (R89). -/
def microDly (s : State) : State := (s.emit .dly).advance

/-- `SMP_BIT` (R90). -/
def microSmpBit (s : State) : State :=
  ({ s with rdacc := shiftIn s.rdacc s.sdaNow, sdaFeed := s.sdaFeed.next }.emit (.smp s.sdaNow)).advance

/-- `SMP_ACK` (R91). -/
def microSmpAck (s : State) : State :=
  ({ s with ackv := s.sdaNow, sdaFeed := s.sdaFeed.next }.emit (.smp s.sdaNow)).advance

/-- `IRQ_OFF` (R92). -/
def microIrqOff (s : State) : State :=
  ({ s with ieSaved := s.ieSavedByOff, ie := false }.emit (.irq false)).advance

/-- `IRQ_ON` (R93). -/
def microIrqOn (s : State) : State :=
  ({ s with ie := s.ieByOn }.emit (.irq s.ieByOn)).advance

/-- `MS_START` (R71). -/
def microMsStart (s : State) : State :=
  ({ s with tsBlock := s.msNow, msFeed := s.msFeed.next }.emit (.ms s.msNow)).advance

/-- `MS_WAIT(d)` (R72). -/
def microMsWait (d : Ms) (s : State) : State :=
  let s1 := { s with msFeed := s.msFeed.next }.emit (.ms s.msNow)
  if waitEnds s.msNow s.tsBlock d then s1.advance else s1

/-- `MS_POLL(d)` (R73). -/
def microMsPoll (d : Ms) (s : State) : State :=
  let s1 := { s with msFeed := s.msFeed.next }.emit (.ms s.msNow)
  if pollFires s.msNow s.tsPoll d then { s1 with tsPoll := s.msNow, pollr := true }.advance
  else { s1 with pollr := false }.advance

/-- `PIT_CLK` (R110). -/
def microPitClk (s : State) : State := ({ s with pitClksel := .lowfreqInternal }.emit .pitClk).advance

/-- `PIT_SYNC` (R111). -/
def microPitSync (s : State) : State :=
  let s1 := { s with syncFeed := s.syncFeed.next }.emit (.pitSync s.syncNow)
  if s.syncNow then s1 else s1.advance

/-- `PIT_IE_SET` (R112). -/
def microPitIeSet (s : State) : State := ({ s with pitIe := true }.emit .pitIe).advance

/-- `PIT_PER(k)` (R113). -/
def microPitPer (k : Fin Config.nIntervals) (s : State) : State :=
  ({ s with pitPeriod := some k }.emit (.pitPer k)).advance

/-- `PULLUPS_ON` (R114). -/
def microPullupsOn (s : State) : State := ({ s with pullups := true }.emit .pullups).advance

/-- `SLP_ENABLE` (R115). -/
def microSlpEnable (s : State) : State := ({ s with slpEn := true }.emit .slpEn).advance

/-- `ADC_OFF` (R116). -/
def microAdcOff (s : State) : State := ({ s with adcEn := false }.emit (.adc false)).advance

/-- `SMODE_PD` (R117). -/
def microSmodePd (s : State) : State := ({ s with slpMode := .powerDown }.emit .smodePd).advance

/-- `SLP_WAIT` (R118). While `ASLEEP = 1` the sequencer holds: the state stays as it is (log entry 3). -/
def microSlpWait (s : State) : State :=
  if s.asleep then s else { s with asleep := true }.emit .sleep

/-- `ADC_ON` (R119). -/
def microAdcOn (s : State) : State := ({ s with adcEn := true }.emit (.adc true)).advance

/-- One micro-op, by its rule (R57). -/
def runMicro (m : MicroOp) (s : State) : State :=
  match m with
  | .sclH => microSclH s
  | .sclL => microSclL s
  | .sdaLo => microSdaLo s
  | .sdaHi => microSdaHi s
  | .sdaRel => microSdaRel s
  | .dly => microDly s
  | .smpBit => microSmpBit s
  | .smpAck => microSmpAck s
  | .irqOff => microIrqOff s
  | .irqOn => microIrqOn s
  | .msStart => microMsStart s
  | .msWait d => microMsWait d s
  | .msPoll d => microMsPoll d s
  | .pitClk => microPitClk s
  | .pitSync => microPitSync s
  | .pitIeSet => microPitIeSet s
  | .pitPer k => microPitPer k s
  | .pullupsOn => microPullupsOn s
  | .slpEnable => microSlpEnable s
  | .adcOff => microAdcOff s
  | .smodePd => microSmodePd s
  | .slpWait => microSlpWait s
  | .adcOn => microAdcOn s

/-! ### Sequences -/

/-- `PULSE` (R94). -/
def pulse : List MicroOp := [.dly, .sclH, .dly, .sclL]

/-- `WBIT(b)` (R95). -/
def wbit (b : Bool) : List MicroOp := (if b then [.sdaHi] else [.sdaLo]) ++ pulse

/-- `WLAST(b)` (R96). -/
def wlast (b : Bool) : List MicroOp :=
  if b then [.sdaHi, .sdaRel] ++ pulse else [.sdaLo] ++ pulse ++ [.sdaRel]

/-- `RBIT` (R97). -/
def rbit : List MicroOp := [.dly, .sclH, .smpBit, .dly, .sclL]

/-- `ACKS` (R98). -/
def acks : List MicroOp := [.sclH, .smpAck, .dly, .sclL]

/-- `ACKT(a)` (R99). -/
def ackt (a : Bool) : List MicroOp := if a then [.sdaLo] ++ pulse ++ [.sdaRel] else pulse

/-! ### The step of a command -/

/-- The sequencer's step through a micro-program (R57), or its completion with the result `res` reads (R58). -/
def seqRun (μ : List MicroOp) (res : State → Word) (s : State) : Host.Outcome State Fault Refusal :=
  match μ[s.upc]? with
  | some m => .next (runMicro m s)
  | none => if s.upc = μ.length then .next (s.complete (res s)) else .fault .upcPastEnd

/-- The step command i takes: its accepted issue while the sequencer is idle (R56), else the step of its
micro-program (log entry 1). -/
def commandStep (i : Instr) (μ : List MicroOp) (res : State → Word) (s : State) :
    Host.Outcome State Fault Refusal :=
  match s.seqState with
  | .idle => .next (s.issue i.opcode i.argument)
  | .busy => seqRun μ res s

end Sys2Proof.Machine
end

