-- ==== Sys2Proof/Machine/Delay.lean ====
section
/-! DEFINITION. The delay timer unit's commands (R74, R75). -/

namespace Sys2Proof.Machine

/-- The micro-program of `DELAY_BLOCKING` (R74). -/
def delayBlockingProgram (ms : Word) : List MicroOp := [.msStart, .msWait (duration ms)]

/-- `DELAY_BLOCKING` (R74). -/
def execDelayBlocking (ms : Word) (s : State) : Host.Outcome State Fault Refusal :=
  commandStep (.delayBlocking ms) (delayBlockingProgram ms) zeroResult s

/-- The micro-program of `DELAY_POLL` (R75). -/
def delayPollProgram (ms : Word) : List MicroOp := [.msPoll (duration ms)]

/-- `DELAY_POLL` (R75). -/
def execDelayPoll (ms : Word) (s : State) : Host.Outcome State Fault Refusal :=
  commandStep (.delayPoll ms) (delayPollProgram ms) pollResult s

end Sys2Proof.Machine
end

