-- ==== Sys2Proof/Machine/I2c.lean ====
section
/-! DEFINITION. The I2C master unit's commands (R100 to R104). -/

namespace Sys2Proof.Machine

/-- The micro-program of `I2C_INIT` (R100). -/
def i2cInitProgram : List MicroOp := [.sclH, .sdaRel]

/-- `I2C_INIT` (R100). -/
def execI2cInit (s : State) : Host.Outcome State Fault Refusal :=
  commandStep .i2cInit i2cInitProgram zeroResult s

/-- The micro-program of `I2C_START` (R101). -/
def i2cStartProgram : List MicroOp := [.sclH, .sdaLo, .dly, .sclL]

/-- `I2C_START` (R101). -/
def execI2cStart (s : State) : Host.Outcome State Fault Refusal :=
  commandStep .i2cStart i2cStartProgram zeroResult s

/-- The micro-program of `I2C_STOP` (R102). -/
def i2cStopProgram : List MicroOp := [.sdaLo, .sclH, .dly, .sdaHi]

/-- `I2C_STOP` (R102). -/
def execI2cStop (s : State) : Host.Outcome State Fault Refusal :=
  commandStep .i2cStop i2cStopProgram zeroResult s

/-- The micro-program of `I2C_WRITE_BYTE` (R103). -/
def i2cWriteByteProgram (data : Byte) : List MicroOp :=
  [.irqOff] ++ wbit (dataBit data 7) ++ wbit (dataBit data 6) ++ wbit (dataBit data 5) ++ wbit (dataBit data 4) ++
    wbit (dataBit data 3) ++ wbit (dataBit data 2) ++ wbit (dataBit data 1) ++ wlast (dataBit data 0) ++ acks ++
    [.irqOn]

/-- `I2C_WRITE_BYTE` (R103). -/
def execI2cWriteByte (data : Byte) (s : State) : Host.Outcome State Fault Refusal :=
  commandStep (.i2cWriteByte data) (i2cWriteByteProgram data) ackResult s

/-- The micro-program of `I2C_READ_BYTE` (R104). -/
def i2cReadByteProgram (ack : Bool) : List MicroOp :=
  [.irqOff] ++ rbit ++ rbit ++ rbit ++ rbit ++ rbit ++ rbit ++ rbit ++ rbit ++ ackt ack ++ [.irqOn]

/-- `I2C_READ_BYTE` (R104). -/
def execI2cReadByte (ack : Bool) (s : State) : Host.Outcome State Fault Refusal :=
  commandStep (.i2cReadByte ack) (i2cReadByteProgram ack) byteResult s

end Sys2Proof.Machine
end

