-- ==== Sys2Proof/Machine/Sleep.lean ====
section
/-! DEFINITION. The sleep sequencer unit's commands (R120, R121). -/

namespace Sys2Proof.Machine

/-- The micro-program of `SLEEP_CONFIG` (R120). -/
def sleepConfigProgram (interval : Word) : List MicroOp :=
  [.pitClk, .pitSync, .pitIeSet, .pitPer (clamp interval), .pullupsOn, .slpEnable]

/-- `SLEEP_CONFIG` (R120). -/
def execSleepConfig (interval : Word) (s : State) : Host.Outcome State Fault Refusal :=
  commandStep (.sleepConfig interval) (sleepConfigProgram interval) zeroResult s

/-- The micro-program of `SLEEP` with k cycles (R121). -/
def sleepProgram (k : Nat) : List MicroOp := [.adcOff, .smodePd] ++ List.replicate k .slpWait ++ [.adcOn]

/-- `SLEEP` where the count is 0 under `REFUSE`: issue raises CmdError 3 (R122). The command is never running, so a
sequencer busy with it has no micro-program. -/
def sleepRefused (s : State) : Host.Outcome State Fault Refusal :=
  match s.seqState with
  | .idle => .next (s.raiseCmdError .zeroCycles)
  | .busy => .fault .noCurrentCommand

/-- `SLEEP` (R121). -/
def execSleep (n : Word) (s : State) : Host.Outcome State Fault Refusal :=
  match cycles s.params n with
  | some k => commandStep (.sleep n) (sleepProgram k) zeroResult s
  | none => sleepRefused s

end Sys2Proof.Machine
end

