-- ==== Sys2Proof/Machine/Dispatch.lean ====
section
/-! DEFINITION. One arm per constructor of Instr. -/

namespace Sys2Proof.Machine

/-- The step that command i takes in state s (R56 to R58). -/
def exec (i : Instr) (s : State) : Host.Outcome State Fault Refusal :=
  match i with
  | .delayBlocking ms => Sys2Proof.Machine.execDelayBlocking ms s
  | .delayPoll ms => Sys2Proof.Machine.execDelayPoll ms s
  | .i2cInit => Sys2Proof.Machine.execI2cInit s
  | .i2cStart => Sys2Proof.Machine.execI2cStart s
  | .i2cStop => Sys2Proof.Machine.execI2cStop s
  | .i2cWriteByte data => Sys2Proof.Machine.execI2cWriteByte data s
  | .i2cReadByte ack => Sys2Proof.Machine.execI2cReadByte ack s
  | .sleepConfig interval => Sys2Proof.Machine.execSleepConfig interval s
  | .sleep n => Sys2Proof.Machine.execSleep n s

end Sys2Proof.Machine
end

