-- ==== Sys2Proof/Machine/Agents.lean ====
section
/-! DEFINITION. The agents (R18) and who steps next (R21, R135, R142): the PIT where it ticks, the ISR where it is enabled, else the sequencer while busy, else the host. -/

namespace Sys2Proof.Machine

/-- The host's write to `OP`: decode, then the error or the issue (R56). -/
def hostIssue (s : State) (v : Byte) : Host.Outcome State Fault Refusal :=
  match decode s.params.sleepZero v s.arg with
  | .ok i => exec i (s.writeOp v)
  | .error e => .next ((s.writeOp v).raiseCmdError e)

/-- One action of the host (R12, R32); an access of a width other than 1 is refused (R46). -/
def hostAct (a : HostAction) (s : State) : Host.Outcome State Fault Refusal :=
  match a with
  | .read width off => if width = 1 then .next (s.memRead off) else .refused .accessWidth
  | .write width off v =>
    if width = 1 then (if off = 0x4#4 then hostIssue s v else .next (s.memWrite off v))
    else .refused .accessWidth
  | .setIe v => .next (s.setIe v)

/-- The host's step: its next action; with none left, nothing happens (log entries 3 and 4). -/
def hostStep (s : State) : Host.Outcome State Fault Refusal :=
  match s.script with
  | [] => .next s
  | a :: rest => hostAct a { s with script := rest }

/-- The sequencer's step: that of the current command (R57, R58). -/
def seqStep (s : State) : Host.Outcome State Fault Refusal :=
  match decode s.params.sleepZero s.curOp s.curArg with
  | .ok i => exec i s
  | .error _ => .fault .noCurrentCommand

/-- A step that is no tick: the ISR whenever it is enabled (R135), else the sequencer or the host (R21). -/
def agentStep (s : State) : Host.Outcome State Fault Refusal :=
  if s.isrEnabled then .next s.takeIsr
  else match s.seqState with
    | .busy => seqStep s
    | .idle => hostStep s

/-- One step of the block: a tick where the PIT takes the step, else a step of another agent (R18, R142). -/
def blockStep (s : State) : Host.Outcome State Fault Refusal :=
  if s.ticksNow then .next s.tickChosen.tick else agentStep s.tickChosen

/-- The state with a command word at the point where the host's next action issues it: `ARG` written, the write of
`OP` next in the host's script, the sequencer idle, and neither a tick nor the ISR in the way (log entry 4). -/
def placeCommand (s : State) (cw : BitVec 40) : State :=
  { s with
    arg := cw.extractLsb' 0 32
    script := .write 1 0x4#4 (cw.extractLsb' 32 8) :: s.script
    seqState := .idle
    asleep := false
    pitPend := s.pitPend && !s.isrEnabled
    tickFeed := if s.pitRunning then { s.tickFeed with planned := false :: s.tickFeed.planned } else s.tickFeed }

end Sys2Proof.Machine
end

