-- ==== Sys2Proof/Machine/Step.lean ====
section
/-! DEFINITION. One step of the machine, and a state in which the next step issues a given command word. -/

namespace Sys2Proof.Machine

/-- One step (R18, R21). -/
def step (s : State) : Host.Outcome State Fault Refusal := blockStep s

/-- The state with the command word of bits w placed so that the next step issues it. The block fetches nothing: a
command comes to run by the host's write of `OP` (R54, R56). -/
def State.withFetchWord (s : State) (nbits w : Nat) : State := placeCommand s (BitVec.ofNat 40 (w % 2 ^ nbits))

end Sys2Proof.Machine
end

