-- ==== Sys2Proof/Safety.lean ====
section
/-! DEFINITION. The terms the statements use: a command's micro-program and result, the current command, repeated steps of one command, whose turn it is, and the invariant of the machine. -/

namespace Sys2Proof

/-- The micro-program μ of a command (R74, R75, R100 to R104, R120, R121); none where the command is not issued. -/
def Instr.program (p : Params) : Instr → Option (List Machine.MicroOp)
  | .delayBlocking ms => some (Machine.delayBlockingProgram ms)
  | .delayPoll ms => some (Machine.delayPollProgram ms)
  | .i2cInit => some Machine.i2cInitProgram
  | .i2cStart => some Machine.i2cStartProgram
  | .i2cStop => some Machine.i2cStopProgram
  | .i2cWriteByte data => some (Machine.i2cWriteByteProgram data)
  | .i2cReadByte ack => some (Machine.i2cReadByteProgram ack)
  | .sleepConfig interval => some (Machine.sleepConfigProgram interval)
  | .sleep n => (Machine.cycles p n).map Machine.sleepProgram

/-- What completion leaves in `RESULT` (R58). -/
def Instr.resultOf (s : Machine.State) : Instr → Word
  | .delayBlocking _ => Machine.zeroResult s
  | .delayPoll _ => Machine.pollResult s
  | .i2cInit => Machine.zeroResult s
  | .i2cStart => Machine.zeroResult s
  | .i2cStop => Machine.zeroResult s
  | .i2cWriteByte _ => Machine.ackResult s
  | .i2cReadByte _ => Machine.byteResult s
  | .sleepConfig _ => Machine.zeroResult s
  | .sleep _ => Machine.zeroResult s

/-- The byte operations, the only commands that mask interrupts (R105). -/
def Instr.masksIrq : Instr → Bool
  | .delayBlocking _ => false
  | .delayPoll _ => false
  | .i2cInit => false
  | .i2cStart => false
  | .i2cStop => false
  | .i2cWriteByte _ => true
  | .i2cReadByte _ => true
  | .sleepConfig _ => false
  | .sleep _ => false

namespace Machine

/-- The command `{CUR_OP, CUR_ARG}` decodes to (R27). -/
def State.current (s : State) : Option Instr :=
  match decode s.params.sleepZero s.curOp s.curArg with
  | .ok i => some i
  | .error _ => none

/-- k steps of one command, with no other agent between them. -/
def execRun (i : Instr) : Nat → State → Host.Outcome State Fault Refusal
  | 0, s => .next s
  | k + 1, s =>
    match exec i s with
    | .next t => execRun i k t
    | .fault r => .fault r
    | .refused r => .refused r

/-- k steps of the machine. -/
def stepRun : Nat → State → Host.Outcome State Fault Refusal
  | 0, s => .next s
  | k + 1, s =>
    match step s with
    | .next t => stepRun k t
    | .fault r => .fault r
    | .refused r => .refused r

/-- A feed after k draws. -/
def Feed.after {α : Type} (f : Feed α) : Nat → Feed α
  | 0 => f
  | k + 1 => f.next.after k

/-- The value `draw_sda()` returns k draws from now. -/
def State.sdaAt (s : State) (k : Nat) : Bool := (s.sdaFeed.after k).now Config.drawSda

/-- The byte of the next eight samples, the first as bit 7: `{v0, v1, v2, v3, v4, v5, v6, v7}` (R104). -/
def State.sampledByte (s : State) : Byte :=
  BitVec.ofBool (s.sdaAt 0) ++ BitVec.ofBool (s.sdaAt 1) ++ BitVec.ofBool (s.sdaAt 2) ++ BitVec.ofBool (s.sdaAt 3) ++
    BitVec.ofBool (s.sdaAt 4) ++ BitVec.ofBool (s.sdaAt 5) ++ BitVec.ofBool (s.sdaAt 6) ++ BitVec.ofBool (s.sdaAt 7)

/-- The value `draw_ms()` returns k draws from now. -/
def State.msAt (s : State) (k : Nat) : Ms := (s.msFeed.after k).now Config.drawMs

/-- The value `draw_sync()` returns k draws from now. -/
def State.syncAt (s : State) (k : Nat) : Bool := (s.syncFeed.after k).now Config.drawSync

/-- Whether the PIT ticks at the k-th step from now at which it may. -/
def State.tickAt (s : State) (k : Nat) : Bool := (s.tickFeed.after k).now Config.pitTicks

/-! The event sequences of the bus operations (95_test_vectors.md section 0; R94 to R99). -/

/-- The events of one clock pulse. -/
def evPulse : List Event := [.dly, .scl .h, .dly, .scl .l]

/-- The events of a bit write, but for the last bit. -/
def evWbit (b : Bool) : List Event := .sda (if b then .hi else .lo) :: evPulse

/-- The events of the last bit's write. -/
def evWlast (b : Bool) : List Event :=
  if b then .sda .hi :: .sda .rel :: evPulse else .sda .lo :: (evPulse ++ [.sda .rel])

/-- The events of a bit read that samples v. -/
def evRbit (v : Bool) : List Event := [.dly, .scl .h, .smp v, .dly, .scl .l]

/-- The events of an acknowledgment sense that samples v. -/
def evAcks (v : Bool) : List Event := [.scl .h, .smp v, .dly, .scl .l]

/-- The events of an acknowledgment send. -/
def evAckt (a : Bool) : List Event := if a then .sda .lo :: (evPulse ++ [.sda .rel]) else evPulse

/-- What `IRQ_ON` leaves in `IE` for a byte operation issued in this state (R92, R93). -/
def State.ieAfterByte (s : State) : Bool :=
  match s.params.irqResume with
  | .enable => true
  | .restore => s.ie

/-- The next step is the host's (R21): no tick is taken, the ISR is not enabled, the sequencer is idle. -/
def State.hostTurn (s : State) : Prop := s.ticksNow = false ∧ s.isrEnabled = false ∧ s.seqState = .idle

/-- The next step is the sequencer's (R21, R57). -/
def State.seqTurn (s : State) : Prop := s.ticksNow = false ∧ s.isrEnabled = false ∧ s.seqState = .busy

/-- The next step is the ISR's (R134, R135). -/
def State.isrTurn (s : State) : Prop := s.ticksNow = false ∧ s.isrEnabled = true

/-- While busy, the sequencer is inside or at the end of the current command's micro-program (R57, R58). -/
def State.seqOk (s : State) : Prop :=
  s.seqState = .busy → ∃ i μ, s.current = some i ∧ i.program s.params = some μ ∧ s.upc ≤ μ.length

/-- `ASLEEP = 1` only while the sequencer is at an `SLP_WAIT` (R136). -/
def State.asleepOk (s : State) : Prop :=
  s.asleep = true →
    s.seqState = .busy ∧ ∃ n k, s.current = some (.sleep n) ∧ cycles s.params n = some k ∧ 2 ≤ s.upc ∧ s.upc < k + 2

/-- `IE = 0` from after `IRQ_OFF` to before `IRQ_ON` of a byte operation (R103, R104, R105). -/
def State.criticalOk (s : State) : Prop :=
  s.seqState = .busy → ∀ i μ, s.current = some i → i.masksIrq = true → i.program s.params = some μ →
    0 < s.upc → s.upc < μ.length → s.ie = false

/-- The timer's fields: a period is programmed only with the clock selected and `PIT_IE = 1`, a pending condition
only with the timer running (R33, R120, R131). -/
def State.pitOk (s : State) : Prop :=
  (s.pitPeriod ≠ none → s.pitClksel = .lowfreqInternal ∧ s.pitIe = true) ∧
  (s.pitPend = true → s.pitRunning = true) ∧
  (s.seqState = .busy → ∀ x, s.current = some (.sleepConfig x) →
    (1 ≤ s.upc → s.pitClksel = .lowfreqInternal) ∧ (3 ≤ s.upc → s.pitIe = true))

/-- A running timer means `SLP_EN = 1`, but for the two micro-ops of `SLEEP_CONFIG` between `PIT_PER` and the end of
`SLP_ENABLE` (R120, R166). -/
def State.slpEnOk (s : State) : Prop :=
  s.pitRunning = true →
    s.slpEn = true ∨ (s.seqState = .busy ∧ ∃ x, s.current = some (.sleepConfig x) ∧ 4 ≤ s.upc ∧ s.upc ≤ 5)

/-- Through the cycles of a `SLEEP` the converter is off and the mode is power-down (R121, R125). -/
def State.sleepOk (s : State) : Prop :=
  s.seqState = .busy → ∀ n k, s.current = some (.sleep n) → cycles s.params n = some k →
    (1 ≤ s.upc → s.upc ≤ k + 2 → s.adcEn = false) ∧ (2 ≤ s.upc → s.slpMode = .powerDown)

/-- The invariant: what holds in every state a run reaches. -/
def State.Inv (s : State) : Prop :=
  s.seqOk ∧ s.asleepOk ∧ s.criticalOk ∧ s.pitOk ∧ s.slpEnOk ∧ s.sleepOk

end Machine

end Sys2Proof
end

