-- ==== Sys2Proof/Certificates/Slice0/Obligations.lean ====
section
/-! DEFINITION. The statements for the provers, from the numbered rules of spec/. -/

open Sys2Proof Sys2Proof.Machine

/-- R59, R60, R61, R62, R63: Decoding an encoded command gives it back, for every command and operand. -/
def Obligations.DecodeOfEncode : Prop :=
  ∀ (mode : SleepZeroMode) (i : Instr), i.wf mode = true →
    decode mode i.opcode i.argument = .ok i ∧ decodeWord mode (encode i) = .ok i

/-- R59, R60, R62, R63: A word that decodes is the encoding of the command it decodes to. -/
def Obligations.EncodeOfDecode : Prop :=
  ∀ (mode : SleepZeroMode) (op : Byte) (arg : Word) (i : Instr), decode mode op arg = .ok i →
    i.opcode = op ∧ i.argument = arg ∧ i.wf mode = true ∧ encode i = op ++ arg

/-- R63, R64, R127, R129: Which words raise which command error, exactly. -/
def Obligations.DecodeErrorsExactly : Prop :=
  ∀ (mode : SleepZeroMode) (op : Byte) (arg : Word),
    (decode mode op arg = .error .illegalOpcode ↔
      op ∉ [0x10#8, 0x11#8, 0x20#8, 0x21#8, 0x22#8, 0x23#8, 0x24#8, 0x30#8, 0x31#8]) ∧
    (decode mode op arg = .error .reservedArg ↔
      (op ∈ [0x20#8, 0x21#8, 0x22#8] ∧ arg ≠ 0#32) ∨ (op = 0x23#8 ∧ 256 ≤ arg.toNat) ∨
      (op = 0x24#8 ∧ 2 ≤ arg.toNat)) ∧
    (decode mode op arg = .error .zeroCycles ↔ op = 0x31#8 ∧ arg = 0#32 ∧ mode = .refuse)

/-- 95_test_vectors.md section 2, R62: The decode vectors of the spec, word by word. -/
def Obligations.SpecWordsDecode : Prop :=
  decodeTableWord 40 0x2000000000 = some .i2cInit ∧
    decodeTableWord 40 0x23000000FF = some (.i2cWriteByte 0xFF#8) ∧
    decodeTableWord 40 0x2400000001 = some (.i2cReadByte true) ∧
    decodeTableWord 40 0x2400000000 = some (.i2cReadByte false) ∧
    decodeTableWord 40 0x10FFFFFFFF = some (.delayBlocking 0xFFFFFFFF#32) ∧
    decodeTableWord 40 0x30FFFFFFFF = some (.sleepConfig 0xFFFFFFFF#32) ∧
    decodeTableWord 40 0x3100000000 = some (.sleep 0#32) ∧
    decodeTableWord 40 0x0000000000 = none ∧ decodeTableWord 40 0x2100000001 = none ∧
    decodeTableWord 40 0x2300000100 = none ∧ decodeTableWord 40 0x3200000000 = none

/-- R109, R122: clamp(x) and cycles(n), and the issue that a count of 0 under REFUSE never gets. -/
def Obligations.OperandForms : Prop :=
  (∀ x : Word, (clamp x).val = if x.toNat ≤ 13 then x.toNat else 8) ∧
    (∀ (p : Params) (n : Word), 1 ≤ n.toNat → cycles p n = some n.toNat) ∧
    (∀ p : Params, p.sleepZero = .one → cycles p 0#32 = some 1) ∧
    (∀ p : Params, p.sleepZero = .refuse → cycles p 0#32 = none ∧
      decode p.sleepZero 0x31#8 0#32 = .error .zeroCycles ∧ errCode .zeroCycles = 3#2) ∧
    (∀ (s : State) (rest : List HostAction), s.hostTurn → s.script = .write 1 0x4#4 0x31#8 :: rest → s.arg = 0#32 →
      s.params.sleepZero = .refuse → step s = .next { s.tickChosen with
        script := rest, op := 0x31#8, err := 3#2, trace := s.trace ++ [.wr 0x4#4 0x31#8, .err 3#2] }) ∧
    (∀ p : Params, p.sleepZero = .underflow → cycles p 0#32 = some (2 ^ p.underflowWidth))

/-- R69: Elapsed time is the unsigned difference modulo 2^32, and comparisons with a duration are unsigned. -/
def Obligations.ElapsedTimeWraps : Prop :=
  ∀ t s d : Ms,
    ((elapsed t s).toNat : Int) = ((t.toNat : Int) - (s.toNat : Int)) % 2 ^ 32 ∧ (elapsed t s).toNat ≤ 2 ^ 32 - 1 ∧
    (waitEnds t s d = true ↔ (d.toNat : Int) ≤ ((t.toNat : Int) - (s.toNat : Int)) % 2 ^ 32) ∧
    (pollFires t s d = true ↔ (d.toNat : Int) < ((t.toNat : Int) - (s.toNat : Int)) % 2 ^ 32)

/-- R39: Every piece of state after reset (the three OPEN values are unvalued constants, log entry 7). -/
def Obligations.ResetValues : Prop :=
  State.reset.arg = 0#32 ∧ State.reset.op = 0#8 ∧ State.reset.result = 0#32 ∧ State.reset.status = 0#8 ∧
    State.reset.seqState = .idle ∧ State.reset.curOp = 0#8 ∧ State.reset.curArg = 0#32 ∧ State.reset.upc = 0 ∧
    State.reset.rdacc = 0#8 ∧ State.reset.ackv = false ∧ State.reset.pollr = false ∧
    State.reset.tsBlock = 0#32 ∧ State.reset.tsPoll = 0#32 ∧
    State.reset.sclMode = .released ∧ State.reset.sdaMode = .released ∧
    State.reset.ie = Config.irqEnReset ∧ State.reset.ieSaved = false ∧
    State.reset.pitClksel = .none ∧ State.reset.pitIe = false ∧ State.reset.pitPeriod = none ∧
    State.reset.pitPend = false ∧ State.reset.slpEn = false ∧ State.reset.slpMode = Config.slpModeReset ∧
    State.reset.adcEn = Config.adcEnReset ∧ State.reset.pullups = false ∧ State.reset.asleep = false ∧
    State.reset.trace = []

/-- R33, R154, R113: The timer starts running only at a SLEEP_CONFIG's PIT_PER, and once running stays running. -/
def Obligations.PitStartsOnlyBySleepConfig : Prop :=
  (∀ s t : State, s.Inv → step s = .next t → s.pitRunning = false → t.pitRunning = true →
      s.seqTurn ∧ s.upc = 3 ∧ ∃ x, s.current = some (.sleepConfig x)) ∧
    (∀ s t : State, step s = .next t → s.pitRunning = true → t.pitRunning = true)

/-- R43: A 1-byte host read returns the window's byte, appends RD(off) and changes nothing else. -/
def Obligations.HostReadReturnsWindowByte : Prop :=
  (∀ (s : State) (off : Offset) (rest : List HostAction), s.hostTurn → s.script = .read 1 off :: rest →
      step s = .next { s.tickChosen with
        script := rest, hostGot := s.hostGot ++ [s.windowRead off], trace := s.trace ++ [.rd off] }) ∧
    (∀ (s : State) (off : Offset), (s.windowRead off).toNat =
      if off.toNat ≤ 3 then s.arg.toNat / 2 ^ (8 * off.toNat) % 256
      else if off.toNat = 4 then s.op.toNat
      else if off.toNat = 5 then s.err.toNat
      else if 8 ≤ off.toNat ∧ off.toNat ≤ 11 then s.result.toNat / 2 ^ (8 * (off.toNat - 8)) % 256
      else 0)

/-- R44, R42, R48: A 1-byte host write replaces one byte of ARG at offsets 0 to 3 and changes nothing at read-only
and reserved offsets. -/
def Obligations.HostWriteOfArgAndReadOnly : Prop :=
  ∀ (s : State) (off : Offset) (v : Byte) (rest : List HostAction), s.hostTurn →
    s.script = .write 1 off v :: rest → off ≠ 0x4#4 →
    ∃ a : Word, step s = .next { s.tickChosen with
        script := rest, arg := a, trace := s.trace ++ [.wr off v] } ∧
      (∀ k : Nat, k < 4 → a.toNat / 2 ^ (8 * k) % 256 =
        if off.toNat = k then v.toNat else s.arg.toNat / 2 ^ (8 * k) % 256) ∧
      (4 ≤ off.toNat → a = s.arg)

/-- R45, R42, R44: Four byte writes at offsets 0 to 3 assemble ARG little-endian. -/
def Obligations.WindowIsLittleEndian : Prop :=
  ∀ (s : State) (x : Word) (rest : List HostAction), s.seqState = .idle → s.pitRunning = false → s.isrEnabled = false →
    s.script = .write 1 0x0#4 (x.extractLsb' 0 8) :: .write 1 0x1#4 (x.extractLsb' 8 8) ::
      .write 1 0x2#4 (x.extractLsb' 16 8) :: .write 1 0x3#4 (x.extractLsb' 24 8) :: rest →
    stepRun 4 s = .next { s with
      arg := x, script := rest,
      trace := s.trace ++ [.wr 0x0#4 (x.extractLsb' 0 8), .wr 0x1#4 (x.extractLsb' 8 8),
        .wr 0x2#4 (x.extractLsb' 16 8), .wr 0x3#4 (x.extractLsb' 24 8)] }

/-- R46, R159: The machine refuses exactly the host accesses of a width other than 1 byte. -/
def Obligations.RefusedExactlyForOtherWidths : Prop :=
  ∀ (s : State) (r : Refusal), step s = .refused r ↔
    (r = .accessWidth ∧ s.hostTurn ∧ ∃ (w : Nat) (rest : List HostAction), w ≠ 1 ∧
      ((∃ off, s.script = .read w off :: rest) ∨ ∃ off v, s.script = .write w off v :: rest))

/-- R32, R37: The host sets or clears IE at its turn. -/
def Obligations.HostSetsInterruptEnable : Prop :=
  ∀ (s : State) (v : Bool) (rest : List HostAction), s.hostTurn → s.script = .setIe v :: rest →
    step s = .next { s.tickChosen with script := rest, ie := v, trace := s.trace ++ [.irq v] }

/-- R56, R128: A host write to offset 4 issues the decoded command or raises CmdError, and changes nothing else. -/
def Obligations.WriteOfOpIssuesOrErrs : Prop :=
  (∀ (s : State) (v : Byte) (rest : List HostAction) (i : Instr), s.hostTurn →
      s.script = .write 1 0x4#4 v :: rest → decode s.params.sleepZero v s.arg = .ok i →
      step s = .next { s.tickChosen with
        script := rest, op := v, err := 0#2, curOp := v, curArg := s.arg, rdacc := 0#8, ackv := false, pollr := false,
        upc := 0, seqState := .busy, trace := s.trace ++ [.wr 0x4#4 v, .cmd v s.arg] }) ∧
    (∀ (s : State) (v : Byte) (rest : List HostAction) (e : CmdError), s.hostTurn →
      s.script = .write 1 0x4#4 v :: rest → decode s.params.sleepZero v s.arg = .error e →
      step s = .next { s.tickChosen with
        script := rest, op := v,
        err := (match e with | .illegalOpcode => 1#2 | .reservedArg => 2#2 | .zeroCycles => 3#2),
        trace := s.trace ++ [.wr 0x4#4 v,
          .err (match e with | .illegalOpcode => 1#2 | .reservedArg => 2#2 | .zeroCycles => 3#2)] }) ∧
    (∀ s t : State, s.seqState = .busy → step s = .next t → t.script = s.script ∧ t.hostGot = s.hostGot)

/-- R56, R57, R21: A step at the host's write of OP, and every sequencer step, is exec of the decoded command. -/
def Obligations.StepRunsDecodedCommand : Prop :=
  (∀ (s : State) (v : Byte) (rest : List HostAction) (i : Instr), s.hostTurn →
      s.script = .write 1 0x4#4 v :: rest → decode s.params.sleepZero v s.arg = .ok i →
      step s = exec i { s.tickChosen with script := rest, op := v, trace := s.trace ++ [.wr 0x4#4 v] }) ∧
    (∀ (s : State) (i : Instr), s.seqTurn → decode s.params.sleepZero s.curOp s.curArg = .ok i →
      step s = exec i s.tickChosen)

/-- R54, R56, R59: A command word placed in any state is what the next step issues (the model's placing, log entry
4). -/
def Obligations.PlacedWordRunsNext : Prop :=
  ∀ (s : State) (w : Nat) (i : Instr), decodeWord s.params.sleepZero (BitVec.ofNat 40 w) = .ok i →
    ∃ u : State, step (s.withFetchWord 40 w) = exec i u ∧ u.seqState = .idle ∧ u.op = i.opcode ∧ u.arg = i.argument ∧
      u.params = s.params

/-- R56, R122, R128: Every command's issue by exec, and exec of the refused count of 0 (what exec itself answers is
the model's choice, log entry 11). -/
def Obligations.EachCommandIssues : Prop :=
  (∀ (i : Instr) (s : State), s.seqState = .idle → i.wf s.params.sleepZero = true →
      exec i s = .next { s with
        err := 0#2, curOp := i.opcode, curArg := i.argument, rdacc := 0#8, ackv := false, pollr := false, upc := 0,
        seqState := .busy, trace := s.trace ++ [.cmd i.opcode i.argument] }) ∧
    (∀ s : State, s.seqState = .idle → s.params.sleepZero = .refuse →
      exec (.sleep 0#32) s = .next { s with err := 3#2, trace := s.trace ++ [.err 3#2] })

/-- R58: At the end of its micro-program each command completes: RESULT, SEQ_STATE <- IDLE, DONE; the ISR goes first
where it is enabled. -/
def Obligations.EachCommandCompletes : Prop :=
  (∀ (s : State) (ms : Word), s.seqState = .busy → s.upc = 2 →
      exec (.delayBlocking ms) s = .next { s with
        result := 0#32, seqState := .idle,
        trace := s.trace ++ [.done (0#32)] }) ∧
    (∀ (s : State) (ms : Word), s.seqState = .busy → s.upc = 1 →
      exec (.delayPoll ms) s = .next { s with
        result := if s.pollr then 1#32 else 0#32, seqState := .idle,
        trace := s.trace ++ [.done (if s.pollr then 1#32 else 0#32)] }) ∧
    (∀ (s : State), s.seqState = .busy → s.upc = 2 →
      exec (.i2cInit) s = .next { s with
        result := 0#32, seqState := .idle,
        trace := s.trace ++ [.done (0#32)] }) ∧
    (∀ (s : State), s.seqState = .busy → s.upc = 4 →
      exec (.i2cStart) s = .next { s with
        result := 0#32, seqState := .idle,
        trace := s.trace ++ [.done (0#32)] }) ∧
    (∀ (s : State), s.seqState = .busy → s.upc = 4 →
      exec (.i2cStop) s = .next { s with
        result := 0#32, seqState := .idle,
        trace := s.trace ++ [.done (0#32)] }) ∧
    (∀ (s : State) (d : Byte), s.seqState = .busy → s.upc = 47 →
      exec (.i2cWriteByte d) s = .next { s with
        result := if s.ackv then 0#32 else 1#32, seqState := .idle,
        trace := s.trace ++ [.done (if s.ackv then 0#32 else 1#32)] }) ∧
    (∀ (s : State), s.seqState = .busy → s.upc = 48 →
      exec (.i2cReadByte true) s = .next { s with
        result := s.rdacc.setWidth 32, seqState := .idle,
        trace := s.trace ++ [.done (s.rdacc.setWidth 32)] }) ∧
    (∀ (s : State), s.seqState = .busy → s.upc = 46 →
      exec (.i2cReadByte false) s = .next { s with
        result := s.rdacc.setWidth 32, seqState := .idle,
        trace := s.trace ++ [.done (s.rdacc.setWidth 32)] }) ∧
    (∀ (s : State) (x : Word), s.seqState = .busy → s.upc = 6 →
      exec (.sleepConfig x) s = .next { s with
        result := 0#32, seqState := .idle,
        trace := s.trace ++ [.done (0#32)] }) ∧
    (∀ (s : State) (n : Word) (k : Nat), s.seqState = .busy → cycles s.params n = some k → s.upc = k + 3 →
      exec (.sleep n) s = .next { s with
        result := 0#32, seqState := .idle, trace := s.trace ++ [.done 0#32] }) ∧
    (∀ s : State, s.isrTurn → step s = .next s.tickChosen.takeIsr)

/-- R57, R58, R106, R118, R126: No command faults or is refused at any point of its micro-program (the held
SLP_WAIT's step is the model's choice, log entry 3). -/
def Obligations.EveryCommandAnswers : Prop :=
  ∀ (i : Instr) (μ : List MicroOp) (s : State), i.program s.params = some μ →
    (s.seqState = .idle ∨ (s.seqState = .busy ∧ s.upc ≤ μ.length)) →
    ∃ t : State, exec i s = .next t ∧ (t = s ↔ s.seqState = .busy ∧ μ[s.upc]? = some .slpWait ∧ s.asleep = true)

/-- R84, R85, R86, R87, R88, R89: SCL_H, SCL_L, SDA_LO, SDA_HI, SDA_REL and DLY, in whatever command they stand. -/
def Obligations.PinMicroOps : Prop :=
  ∀ (i : Instr) (μ : List MicroOp) (s : State), s.seqState = .busy → i.program s.params = some μ →
    (μ[s.upc]? = some .sclH →
      exec i s = .next { s with
        sclMode := .driveHigh, trace := s.trace ++ [.scl .h], upc := s.upc + 1 }) ∧
    (μ[s.upc]? = some .sclL →
      exec i s = .next { s with
        sclMode := .driveLow, trace := s.trace ++ [.scl .l], upc := s.upc + 1 }) ∧
    (μ[s.upc]? = some .sdaLo →
      exec i s = .next { s with
        sdaMode := .driveLow, trace := s.trace ++ [.sda .lo], upc := s.upc + 1 }) ∧
    (μ[s.upc]? = some .sdaHi →
      exec i s = .next { s with
        sdaMode := .driveHigh, trace := s.trace ++ [.sda .hi], upc := s.upc + 1 }) ∧
    (μ[s.upc]? = some .sdaRel →
      exec i s = .next { s with
        sdaMode := .released, trace := s.trace ++ [.sda .rel], upc := s.upc + 1 }) ∧
    (μ[s.upc]? = some .dly →
      exec i s = .next { s with
        trace := s.trace ++ [.dly], upc := s.upc + 1 })

/-- R90, R91: SMP_BIT and SMP_ACK take the drawn bit, whatever it is. -/
def Obligations.SampleMicroOps : Prop :=
  ∀ (i : Instr) (μ : List MicroOp) (s : State), s.seqState = .busy → i.program s.params = some μ →
    (μ[s.upc]? = some .smpBit →
      exec i s = .next { s with
        rdacc := s.rdacc.extractLsb' 0 7 ++ BitVec.ofBool (s.sdaAt 0), sdaFeed := s.sdaFeed.next,
        trace := s.trace ++ [.smp (s.sdaAt 0)], upc := s.upc + 1 }) ∧
    (μ[s.upc]? = some .smpAck →
      exec i s = .next { s with
        ackv := s.sdaAt 0, sdaFeed := s.sdaFeed.next,
        trace := s.trace ++ [.smp (s.sdaAt 0)], upc := s.upc + 1 })

/-- R92, R93: IRQ_OFF and IRQ_ON under both values of IRQ_RESUME_MODE. -/
def Obligations.InterruptMaskMicroOps : Prop :=
  ∀ (i : Instr) (μ : List MicroOp) (s : State), s.seqState = .busy → i.program s.params = some μ →
    (μ[s.upc]? = some .irqOff →
      exec i s = .next { s with
        ieSaved := (match s.params.irqResume with | .enable => s.ieSaved | .restore => s.ie), ie := false,
        trace := s.trace ++ [.irq false], upc := s.upc + 1 }) ∧
    (μ[s.upc]? = some .irqOn →
      exec i s = .next { s with
        ie := (match s.params.irqResume with | .enable => true | .restore => s.ieSaved),
        trace := s.trace ++ [.irq (match s.params.irqResume with | .enable => true | .restore => s.ieSaved)],
        upc := s.upc + 1 })

/-- R71, R72, R73: MS_START, MS_WAIT and MS_POLL on the value read, whatever it is. -/
def Obligations.CounterMicroOps : Prop :=
  ∀ (i : Instr) (μ : List MicroOp) (s : State), s.seqState = .busy → i.program s.params = some μ →
    (μ[s.upc]? = some .msStart →
      exec i s = .next { s with
        tsBlock := s.msAt 0, msFeed := s.msFeed.next,
        trace := s.trace ++ [.ms (s.msAt 0)], upc := s.upc + 1 }) ∧
    (∀ d : Ms, μ[s.upc]? = some (.msWait d) →
      exec i s = .next { s with
        msFeed := s.msFeed.next, trace := s.trace ++ [.ms (s.msAt 0)],
        upc := if d.toNat ≤ ((s.msAt 0).toNat + (2 ^ 32 - s.tsBlock.toNat)) % 2 ^ 32 then s.upc + 1 else s.upc }) ∧
    (∀ d : Ms, μ[s.upc]? = some (.msPoll d) →
      exec i s = .next { s with
        msFeed := s.msFeed.next, trace := s.trace ++ [.ms (s.msAt 0)], upc := s.upc + 1,
        tsPoll := if d.toNat < ((s.msAt 0).toNat + (2 ^ 32 - s.tsPoll.toNat)) % 2 ^ 32 then s.msAt 0 else s.tsPoll,
        pollr := decide (d.toNat < ((s.msAt 0).toNat + (2 ^ 32 - s.tsPoll.toNat)) % 2 ^ 32) })

/-- R110, R111, R112, R114, R115: PIT_CLK, PIT_SYNC, PIT_IE_SET, PULLUPS_ON and SLP_ENABLE; PIT_PER stores its
index. -/
def Obligations.SleepConfigMicroOps : Prop :=
  ∀ (i : Instr) (μ : List MicroOp) (s : State), s.seqState = .busy → i.program s.params = some μ →
    (μ[s.upc]? = some .pitClk →
      exec i s = .next { s with
        pitClksel := .lowfreqInternal, trace := s.trace ++ [.pitClk], upc := s.upc + 1 }) ∧
    (μ[s.upc]? = some .pitSync →
      exec i s = .next { s with
        syncFeed := s.syncFeed.next, trace := s.trace ++ [.pitSync (s.syncAt 0)],
        upc := if s.syncAt 0 then s.upc else s.upc + 1 }) ∧
    (μ[s.upc]? = some .pitIeSet →
      exec i s = .next { s with
        pitIe := true, trace := s.trace ++ [.pitIe], upc := s.upc + 1 }) ∧
    (∀ k : Fin 14, μ[s.upc]? = some (.pitPer k) →
      exec i s = .next { s with
        pitPeriod := some k, trace := s.trace ++ [.pitPer k], upc := s.upc + 1 }) ∧
    (μ[s.upc]? = some .pullupsOn →
      exec i s = .next { s with
        pullups := true, trace := s.trace ++ [.pullups], upc := s.upc + 1 }) ∧
    (μ[s.upc]? = some .slpEnable →
      exec i s = .next { s with
        slpEn := true, trace := s.trace ++ [.slpEn], upc := s.upc + 1 })

/-- R116, R117, R118, R119: ADC_OFF, SMODE_PD, ADC_ON, and SLP_WAIT awake and asleep (the step of its hold is the
model's choice, log entry 3). -/
def Obligations.SleepMicroOps : Prop :=
  ∀ (i : Instr) (μ : List MicroOp) (s : State), s.seqState = .busy → i.program s.params = some μ →
    (μ[s.upc]? = some .adcOff →
      exec i s = .next { s with
        adcEn := false, trace := s.trace ++ [.adc false], upc := s.upc + 1 }) ∧
    (μ[s.upc]? = some .smodePd →
      exec i s = .next { s with
        slpMode := .powerDown, trace := s.trace ++ [.smodePd], upc := s.upc + 1 }) ∧
    (μ[s.upc]? = some .adcOn →
      exec i s = .next { s with
        adcEn := true, trace := s.trace ++ [.adc true], upc := s.upc + 1 }) ∧
    (μ[s.upc]? = some .slpWait →
      exec i s = .next { s with
        asleep := true, trace := s.trace ++ (if s.asleep then [] else [.sleep]) })

/-- R103, R104, R107, R120, R121, R175: Lengths of the micro-programs and the counts of clock edges, drives, samples
and delays in them. -/
def Obligations.ProgramLengthsAndCounts : Prop :=
  (∀ d : Byte, (i2cWriteByteProgram d).length = 47 ∧ (i2cWriteByteProgram d).count .sclH = 9 ∧
      (i2cWriteByteProgram d).count .sclL = 9 ∧ (i2cWriteByteProgram d).count .dly = 17 ∧
      (i2cWriteByteProgram d).count .sdaHi + (i2cWriteByteProgram d).count .sdaLo = 8 ∧
      (i2cWriteByteProgram d).count .sdaRel = 1 ∧ (i2cWriteByteProgram d).count .smpAck = 1 ∧
      ((i2cWriteByteProgram d).take 42).count .smpAck = 0 ∧
      ((i2cWriteByteProgram d).take 42).count .sdaHi + ((i2cWriteByteProgram d).take 42).count .sdaLo = 8) ∧
    (∀ a : Bool, (i2cReadByteProgram a).length = (if a then 48 else 46) ∧ (i2cReadByteProgram a).count .sclH = 9 ∧
      (i2cReadByteProgram a).count .sclL = 9 ∧ (i2cReadByteProgram a).count .dly = 18 ∧
      (i2cReadByteProgram a).count .smpBit = 8 ∧
      (i2cReadByteProgram a).count .sdaHi = 0 ∧
      (i2cReadByteProgram a).count .sdaLo = (if a then 1 else 0) ∧
      (i2cReadByteProgram a).count .sdaRel = (if a then 1 else 0)) ∧
    (∀ x : Word, (sleepConfigProgram x).length = 6) ∧
    (∀ k : Nat, (sleepProgram k).length = k + 3 ∧ (sleepProgram k).count .slpWait = k ∧
      (sleepProgram k).count .adcOff = 1 ∧ (sleepProgram k).count .adcOn = 1)

/-- R100, R101, R102, R107, R106: I2C_INIT, I2C_START and I2C_STOP from issue to completion: final state and
waveform. -/
def Obligations.BusControlCommandsRun : Prop :=
  (∀ s : State, s.seqState = .idle → execRun .i2cInit 4 s = .next { s with
      err := 0#2, seqState := .idle, rdacc := 0#8, ackv := false, pollr := false, curOp := 0x20#8, curArg := 0#32, upc := 2,
      result := 0#32, sclMode := .driveHigh, sdaMode := .released,
      trace := s.trace ++ [.cmd 0x20#8 0#32, .scl .h, .sda .rel, .done 0#32] }) ∧
    (∀ s : State, s.seqState = .idle → execRun .i2cStart 6 s = .next { s with
      err := 0#2, seqState := .idle, rdacc := 0#8, ackv := false, pollr := false, curOp := 0x21#8, curArg := 0#32, upc := 4,
      result := 0#32, sclMode := .driveLow, sdaMode := .driveLow,
      trace := s.trace ++ [.cmd 0x21#8 0#32, .scl .h, .sda .lo, .dly, .scl .l, .done 0#32] }) ∧
    (∀ s : State, s.seqState = .idle → execRun .i2cStop 6 s = .next { s with
      err := 0#2, seqState := .idle, rdacc := 0#8, ackv := false, pollr := false, curOp := 0x22#8, curArg := 0#32, upc := 4,
      result := 0#32, sclMode := .driveHigh, sdaMode := .driveHigh,
      trace := s.trace ++ [.cmd 0x22#8 0#32, .sda .lo, .scl .h, .dly, .sda .hi, .done 0#32] })

/-- R103, R94, R95, R96, R98, R106: I2C_WRITE_BYTE from issue to completion: every data byte, every acknowledgment
sample. -/
def Obligations.WriteByteRun : Prop :=
  ∀ (s : State) (d : Byte), s.seqState = .idle → execRun (.i2cWriteByte d) 49 s = .next { s with
      err := 0#2, seqState := .idle, rdacc := 0#8, pollr := false, ackv := s.sdaAt 0,
      curOp := 0x23#8, curArg := d.setWidth 32, upc := 47,
      ie := s.ieAfterByte, ieSaved := s.ieSavedByOff, sclMode := .driveLow, sdaMode := .released,
      sdaFeed := s.sdaFeed.next, result := if s.sdaAt 0 then 0#32 else 1#32,
      trace := s.trace ++ ([.cmd 0x23#8 (d.setWidth 32), .irq false] ++
        evWbit (d.getLsbD 7) ++ evWbit (d.getLsbD 6) ++ evWbit (d.getLsbD 5) ++ evWbit (d.getLsbD 4) ++
        evWbit (d.getLsbD 3) ++ evWbit (d.getLsbD 2) ++ evWbit (d.getLsbD 1) ++
        evWlast (d.getLsbD 0) ++ evAcks (s.sdaAt 0) ++
        [.irq s.ieAfterByte, .done (if s.sdaAt 0 then 0#32 else 1#32)]) }

/-- R104, R97, R99, R106: I2C_READ_BYTE from issue to completion: RESULT is the eight samples, first sample most
significant. -/
def Obligations.ReadByteRun : Prop :=
  ∀ (s : State) (a : Bool), s.seqState = .idle →
    execRun (.i2cReadByte a) (if a then 50 else 48) s = .next { s with
      err := 0#2, seqState := .idle, ackv := false, pollr := false,
      rdacc := s.sampledByte,
      curOp := 0x24#8, curArg := (BitVec.ofBool a).setWidth 32, upc := if a then 48 else 46,
      ie := s.ieAfterByte, ieSaved := s.ieSavedByOff, sclMode := .driveLow,
      sdaMode := if a then .released else s.sdaMode, sdaFeed := s.sdaFeed.after 8,
      result := s.sampledByte.setWidth 32,
      trace := s.trace ++ ([.cmd 0x24#8 ((BitVec.ofBool a).setWidth 32), .irq false] ++
        evRbit (s.sdaAt 0) ++ evRbit (s.sdaAt 1) ++ evRbit (s.sdaAt 2) ++ evRbit (s.sdaAt 3) ++ evRbit (s.sdaAt 4) ++
        evRbit (s.sdaAt 5) ++ evRbit (s.sdaAt 6) ++ evRbit (s.sdaAt 7) ++
        evAckt a ++ [.irq s.ieAfterByte, .done (s.sampledByte.setWidth 32)]) }

/-- R74, R69, R71, R72, R78: DELAY_BLOCKING completes at the first read whose elapsed time reaches the duration, and
not before. -/
def Obligations.DelayBlockingRun : Prop :=
  ∀ (s : State) (d : Word) (n : Nat), s.seqState = .idle →
    (∀ k : Nat, k < n → ((s.msAt (k + 1)).toNat + (2 ^ 32 - (s.msAt 0).toNat)) % 2 ^ 32 < d.toNat) →
    d.toNat ≤ ((s.msAt (n + 1)).toNat + (2 ^ 32 - (s.msAt 0).toNat)) % 2 ^ 32 →
    execRun (.delayBlocking d) (n + 4) s = .next { s with
      err := 0#2, seqState := .idle, rdacc := 0#8, ackv := false, pollr := false, curOp := 0x10#8, curArg := d,
      upc := 2, result := 0#32, tsBlock := s.msAt 0, msFeed := s.msFeed.after (n + 2),
      trace := s.trace ++ ([.cmd 0x10#8 d] ++ (List.range (n + 2)).map (fun k => .ms (s.msAt k)) ++ [.done 0#32]) }

/-- R75, R73, R76: DELAY_POLL from issue to completion: RESULT is 1 exactly when the elapsed time exceeds the
duration. -/
def Obligations.DelayPollRun : Prop :=
  ∀ (s : State) (d : Word), s.seqState = .idle → execRun (.delayPoll d) 3 s = .next { s with
      err := 0#2, seqState := .idle, rdacc := 0#8, ackv := false, curOp := 0x11#8, curArg := d, upc := 1,
      pollr := decide (d.toNat < ((s.msAt 0).toNat + (2 ^ 32 - s.tsPoll.toNat)) % 2 ^ 32),
      tsPoll := if d.toNat < ((s.msAt 0).toNat + (2 ^ 32 - s.tsPoll.toNat)) % 2 ^ 32 then s.msAt 0 else s.tsPoll,
      result := if d.toNat < ((s.msAt 0).toNat + (2 ^ 32 - s.tsPoll.toNat)) % 2 ^ 32 then 1#32 else 0#32,
      msFeed := s.msFeed.next,
      trace := s.trace ++ [.cmd 0x11#8 d, .ms (s.msAt 0),
        .done (if d.toNat < ((s.msAt 0).toNat + (2 ^ 32 - s.tsPoll.toNat)) % 2 ^ 32 then 1#32 else 0#32)] }

/-- R79, R75, R73: After a fire, DELAY_POLL fires again only after a true advance of more than the duration. -/
def Obligations.PollWindow : Prop :=
  ∀ (s : State) (d : Word) (c c' : Nat), s.seqState = .busy → s.upc = 0 → s.tsPoll = BitVec.ofNat 32 c →
    s.msAt 0 = BitVec.ofNat 32 c' → c ≤ c' → c' < c + 2 ^ 32 →
    ∃ t : State, exec (.delayPoll d) s = .next t ∧ (t.pollr = true ↔ c + d.toNat + 1 ≤ c') ∧
      (t.pollr = true → t.tsPoll = BitVec.ofNat 32 c') ∧ (t.pollr = false → t.tsPoll = s.tsPoll) ∧
      (d = 0xFFFFFFFF#32 → t.pollr = false) ∧ (d = 0#32 → (t.pollr = true ↔ c ≠ c'))

/-- R120, R109, R124: SLEEP_CONFIG from issue to completion, however many synchronization polls it takes. -/
def Obligations.SleepConfigRun : Prop :=
  ∀ (s : State) (x : Word) (n : Nat) (k : Fin 14), s.seqState = .idle →
    k.val = (if x.toNat ≤ 13 then x.toNat else 8) → (∀ j : Nat, j < n → s.syncAt j = true) → s.syncAt n = false →
    execRun (.sleepConfig x) (n + 8) s = .next { s with
      err := 0#2, seqState := .idle, rdacc := 0#8, ackv := false, pollr := false, curOp := 0x30#8, curArg := x,
      upc := 6, result := 0#32, pitClksel := .lowfreqInternal, pitIe := true, pitPeriod := some k, pullups := true,
      slpEn := true, syncFeed := s.syncFeed.after (n + 1),
      trace := s.trace ++ ([.cmd 0x30#8 x, .pitClk] ++ List.replicate n (.pitSync true) ++
        [.pitSync false, .pitIe, .pitPer k, .pullups, .slpEn, .done 0#32]) }

/-- R120, R109: SLEEP_CONFIG with any interval beyond 13 runs exactly as with 8. -/
def Obligations.OutOfRangeIntervalsAreIndexEight : Prop :=
  (∀ (s : State) (x : Word), 14 ≤ x.toNat → s.seqState = .busy → exec (.sleepConfig x) s = exec (.sleepConfig 8#32) s) ∧
    (∀ s : State, s.seqState = .busy → s.upc = 3 → exec (.sleepConfig 13#32) s ≠ exec (.sleepConfig 8#32) s)

/-- R121, R118, R122, R125, R136: SLEEP runs exactly cycles(n) sleep-and-wake cycles with the converter off once and
on once. -/
def Obligations.SleepRun : Prop :=
  ∀ (s : State) (n : Word) (k : Nat) (rest : List HostAction), s.seqState = .idle → s.asleep = false →
    s.pitRunning = true → s.pitIe = true → s.ie = true → s.pitPend = false → s.arg = n →
    s.script = .write 1 0x4#4 0x31#8 :: rest → cycles s.params n = some k →
    (∀ j : Nat, j < 3 * k + 5 → s.tickAt j = decide (3 ≤ j ∧ j < 3 * k + 3 ∧ (j - 3) % 3 = 1)) →
    stepRun (3 * k + 5) s = .next { s with
      script := rest, op := 0x31#8, err := 0#2, curOp := 0x31#8, curArg := n, rdacc := 0#8, ackv := false,
      pollr := false, upc := k + 3, result := 0#32, adcEn := true, slpMode := .powerDown,
      tickFeed := s.tickFeed.after (3 * k + 5),
      trace := s.trace ++ ([.wr 0x4#4 0x31#8, .cmd 0x31#8 n, .adc false, .smodePd] ++
        (List.replicate k [.sleep, .tick, .isr, .wake]).flatten ++ [.adc true, .done 0#32]) }

/-- R131: A PIT tick: enabled exactly while the timer runs, at any step, whatever the enables. -/
def Obligations.TickSetsPending : Prop :=
  (∀ s : State, s.ticksNow = true →
      s.pitRunning = true ∧ step s = .next { s with
        pitPend := true, tickFeed := s.tickFeed.next, trace := s.trace ++ [.tick] }) ∧
    (∀ (s : State) (l : List Bool), s.pitRunning = true →
      step { s with tickFeed := { planned := true :: l, ix := s.tickFeed.ix } } = .next { s with
        pitPend := true, tickFeed := { planned := l, ix := s.tickFeed.ix }, trace := s.trace ++ [.tick] })

/-- R134, R135, R136, R139, R140: The ISR runs whenever IE, PIT_IE and PIT_PEND are 1 and no tick is taken; it
clears PIT_PEND, wakes a sleeping sequencer and does nothing else. -/
def Obligations.IsrStep : Prop :=
  (∀ s : State, s.ticksNow = false → s.ie = true → s.pitIe = true → s.pitPend = true →
      step s = .next { s.tickChosen with
        pitPend := false, asleep := false, upc := (if s.asleep then s.upc + 1 else s.upc),
        trace := s.trace ++ (if s.asleep then [.isr, .wake] else [.isr]) }) ∧
    (∀ (s t : State) (evs : List Event), step s = .next t → t.trace = s.trace ++ evs → (.isr ∈ evs ∨ .wake ∈ evs) →
      s.ticksNow = false ∧ s.ie = true ∧ s.pitIe = true ∧ s.pitPend = true)

/-- R132, R135, R136: Any number of ticks before the ISR give one ISR. -/
def Obligations.TicksCoalesce : Prop :=
  ∀ (s : State) (n : Nat), s.pitRunning = true → s.ie = true → s.pitIe = true →
    (∀ j : Nat, j ≤ n → s.tickAt j = true) → s.tickAt (n + 1) = false →
    stepRun (n + 2) s = .next { s with
      pitPend := false, asleep := false, upc := (if s.asleep then s.upc + 1 else s.upc),
      tickFeed := s.tickFeed.after (n + 2),
      trace := s.trace ++ (List.replicate (n + 1) .tick ++ (if s.asleep then [.isr, .wake] else [.isr])) }

/-- R105, R138, R103, R104: Inside a byte operation's critical section a step is a tick or the operation's own
micro-op, never the ISR. -/
def Obligations.CriticalSectionDefersIsr : Prop :=
  ∀ (s : State) (i : Instr) (μ : List MicroOp), s.Inv → s.seqState = .busy → s.current = some i → i.masksIrq = true →
    i.program s.params = some μ → 0 < s.upc → s.upc < μ.length →
    step s = (if s.ticksNow then .next s.tickChosen.tick else exec i s.tickChosen) ∧
    (∀ t : State, step s = .next t → s.pitPend = true → t.pitPend = true)

/-- R138, R93, R135: A tick masked by a byte operation is served right after IRQ_ON, before the completion step. -/
def Obligations.IrqOnThenIsr : Prop :=
  ∀ (s t : State) (i : Instr) (μ : List MicroOp), s.seqTurn → s.current = some i → i.masksIrq = true →
    i.program s.params = some μ → s.upc + 1 = μ.length → s.pitPend = true → s.pitIe = true → s.asleep = false →
    (s.params.irqResume = .enable ∨ s.ieSaved = true) → step s = .next t →
    t.ie = true ∧ t.upc = μ.length ∧ (t.ticksNow = false → ∃ u, step t = .next u ∧ u.pitPend = false ∧
      u.upc = μ.length ∧ u.seqState = .busy ∧ u.trace = t.trace ++ [.isr])

/-- R118, R124, R131, R136: A sleeping sequencer is woken by the first tick's ISR, and by nothing before it (the
steps of its hold are the model's choice, log entry 3). -/
def Obligations.SleepHoldsUntilIsr : Prop :=
  ∀ (s : State) (n : Word) (k j : Nat), s.seqState = .busy → s.asleep = true → s.current = some (.sleep n) →
    cycles s.params n = some k → 2 ≤ s.upc → s.upc < k + 2 →
    s.pitRunning = true → s.ie = true → s.pitIe = true → s.pitPend = false →
    (∀ l : Nat, l < j → s.tickAt l = false) → s.tickAt j = true → s.tickAt (j + 1) = false →
    (∀ l : Nat, l ≤ j → stepRun l s = .next { s with tickFeed := s.tickFeed.after l }) ∧
    stepRun (j + 2) s = .next { s with
      asleep := false, upc := s.upc + 1, pitPend := false, tickFeed := s.tickFeed.after (j + 2),
      trace := s.trace ++ [.tick, .isr, .wake] }

/-- R166, R118, R159: A sleep with IE = 0, PIT_IE = 0 or no timer never ends: every step keeps it stuck (a step
without a tick is the model's choice, log entry 3). -/
def Obligations.SleepStuckWithoutInterrupt : Prop :=
  ∀ (s : State) (n : Word) (k : Nat), s.seqState = .busy → s.asleep = true → s.current = some (.sleep n) →
    cycles s.params n = some k → 2 ≤ s.upc → s.upc < k + 2 →
    (s.ie = false ∨ s.pitIe = false ∨ (s.pitRunning = false ∧ s.pitPend = false)) →
    ∃ t : State, step s = .next t ∧
      (t.ie = false ∨ t.pitIe = false ∨ (t.pitRunning = false ∧ t.pitPend = false)) ∧ t.current = s.current ∧
      t.arg = s.arg ∧ t.op = s.op ∧ t.result = s.result ∧ t.err = s.err ∧ t.seqState = s.seqState ∧
      t.curOp = s.curOp ∧ t.curArg = s.curArg ∧ t.upc = s.upc ∧ t.rdacc = s.rdacc ∧
      t.ackv = s.ackv ∧ t.pollr = s.pollr ∧ t.ie = s.ie ∧ t.ieSaved = s.ieSaved ∧
      t.sclMode = s.sclMode ∧ t.sdaMode = s.sdaMode ∧ t.pitClksel = s.pitClksel ∧
      t.pitIe = s.pitIe ∧ t.pitPeriod = s.pitPeriod ∧ t.slpEn = s.slpEn ∧ t.slpMode = s.slpMode ∧
      t.adcEn = s.adcEn ∧ t.pullups = s.pullups ∧ t.asleep = s.asleep ∧ t.tsBlock = s.tsBlock ∧
      t.tsPoll = s.tsPoll ∧ t.params = s.params ∧ t.script = s.script ∧ t.hostGot = s.hostGot ∧
      t.sdaFeed = s.sdaFeed ∧ t.msFeed = s.msFeed ∧ t.syncFeed = s.syncFeed ∧ (t.trace = s.trace ∨ t.trace = s.trace ++ [.tick])

/-- R152: While asleep every step leaves all state but ASLEEP, UPC, PIT_PEND and TRACE. -/
def Obligations.StateSurvivesSleep : Prop :=
  ∀ s t : State, s.Inv → s.asleep = true → step s = .next t →
      t.arg = s.arg ∧ t.op = s.op ∧ t.result = s.result ∧ t.err = s.err ∧ t.seqState = s.seqState ∧
      t.curOp = s.curOp ∧ t.curArg = s.curArg ∧ t.rdacc = s.rdacc ∧ t.ackv = s.ackv ∧
      t.pollr = s.pollr ∧ t.ie = s.ie ∧ t.ieSaved = s.ieSaved ∧ t.sclMode = s.sclMode ∧
      t.sdaMode = s.sdaMode ∧ t.pitClksel = s.pitClksel ∧ t.pitIe = s.pitIe ∧
      t.pitPeriod = s.pitPeriod ∧ t.slpEn = s.slpEn ∧ t.slpMode = s.slpMode ∧ t.adcEn = s.adcEn ∧
      t.pullups = s.pullups ∧ t.tsBlock = s.tsBlock ∧ t.tsPoll = s.tsPoll ∧ t.params = s.params ∧
      t.script = s.script ∧ t.hostGot = s.hostGot ∧ t.sdaFeed = s.sdaFeed ∧ t.msFeed = s.msFeed ∧
      t.syncFeed = s.syncFeed ∧ (∀ off : Offset, t.windowRead off = s.windowRead off)

/-- R74, R75, R77: Frame of the delay commands: what no step of DELAY_BLOCKING or DELAY_POLL changes. -/
def Obligations.DelayFrame : Prop :=
  (∀ (ms : Word) (s t : State), exec (.delayBlocking ms) s = .next t →
      t.arg = s.arg ∧ t.op = s.op ∧ t.ie = s.ie ∧ t.ieSaved = s.ieSaved ∧ t.sclMode = s.sclMode ∧
      t.sdaMode = s.sdaMode ∧ t.pitClksel = s.pitClksel ∧ t.pitIe = s.pitIe ∧
      t.pitPeriod = s.pitPeriod ∧ t.pitPend = s.pitPend ∧ t.slpEn = s.slpEn ∧
      t.slpMode = s.slpMode ∧ t.adcEn = s.adcEn ∧ t.pullups = s.pullups ∧ t.asleep = s.asleep ∧
      t.tsPoll = s.tsPoll ∧ t.params = s.params ∧ t.script = s.script ∧ t.hostGot = s.hostGot ∧
      t.sdaFeed = s.sdaFeed ∧ t.syncFeed = s.syncFeed ∧ t.tickFeed = s.tickFeed ∧
      (s.seqState = .busy → t.err = s.err ∧ t.curOp = s.curOp ∧ t.curArg = s.curArg) ∧
      (s.seqState = .busy → t.rdacc = s.rdacc ∧ t.ackv = s.ackv ∧ t.pollr = s.pollr) ∧ (t.seqState = .busy → t.result = s.result) ∧
      (∀ off : Offset, off ≠ 0x5#4 → (off < 0x8#4 ∨ 0xB#4 < off) → t.windowRead off = s.windowRead off)) ∧
    (∀ (ms : Word) (s t : State), exec (.delayPoll ms) s = .next t →
      t.arg = s.arg ∧ t.op = s.op ∧ t.ie = s.ie ∧ t.ieSaved = s.ieSaved ∧ t.sclMode = s.sclMode ∧
      t.sdaMode = s.sdaMode ∧ t.pitClksel = s.pitClksel ∧ t.pitIe = s.pitIe ∧
      t.pitPeriod = s.pitPeriod ∧ t.pitPend = s.pitPend ∧ t.slpEn = s.slpEn ∧
      t.slpMode = s.slpMode ∧ t.adcEn = s.adcEn ∧ t.pullups = s.pullups ∧ t.asleep = s.asleep ∧
      t.tsBlock = s.tsBlock ∧ t.params = s.params ∧ t.script = s.script ∧ t.hostGot = s.hostGot ∧
      t.sdaFeed = s.sdaFeed ∧ t.syncFeed = s.syncFeed ∧ t.tickFeed = s.tickFeed ∧
      (s.seqState = .busy → t.err = s.err ∧ t.curOp = s.curOp ∧ t.curArg = s.curArg) ∧
      (s.seqState = .busy → t.rdacc = s.rdacc ∧ t.ackv = s.ackv) ∧ (t.seqState = .busy → t.result = s.result) ∧
      (∀ off : Offset, off ≠ 0x5#4 → (off < 0x8#4 ∨ 0xB#4 < off) → t.windowRead off = s.windowRead off))

/-- R100, R101, R102: Frame of I2C_INIT, I2C_START and I2C_STOP. -/
def Obligations.BusControlFrame : Prop :=
  ∀ (i : Instr) (s t : State), (i = .i2cInit ∨ i = .i2cStart ∨ i = .i2cStop) → exec i s = .next t →
      t.arg = s.arg ∧ t.op = s.op ∧ t.ie = s.ie ∧ t.ieSaved = s.ieSaved ∧
      t.pitClksel = s.pitClksel ∧ t.pitIe = s.pitIe ∧ t.pitPeriod = s.pitPeriod ∧
      t.pitPend = s.pitPend ∧ t.slpEn = s.slpEn ∧ t.slpMode = s.slpMode ∧ t.adcEn = s.adcEn ∧
      t.pullups = s.pullups ∧ t.asleep = s.asleep ∧ t.tsBlock = s.tsBlock ∧ t.tsPoll = s.tsPoll ∧
      t.params = s.params ∧ t.script = s.script ∧ t.hostGot = s.hostGot ∧ t.sdaFeed = s.sdaFeed ∧
      t.msFeed = s.msFeed ∧ t.syncFeed = s.syncFeed ∧ t.tickFeed = s.tickFeed ∧
      (s.seqState = .busy → t.err = s.err ∧ t.curOp = s.curOp ∧ t.curArg = s.curArg) ∧
      (s.seqState = .busy → t.rdacc = s.rdacc ∧ t.ackv = s.ackv ∧ t.pollr = s.pollr) ∧ (t.seqState = .busy → t.result = s.result) ∧
      (∀ off : Offset, off ≠ 0x5#4 → (off < 0x8#4 ∨ 0xB#4 < off) → t.windowRead off = s.windowRead off)

/-- R103, R104: Frame of I2C_WRITE_BYTE and I2C_READ_BYTE. -/
def Obligations.ByteOperationFrame : Prop :=
  ∀ (i : Instr) (s t : State), ((∃ d, i = .i2cWriteByte d) ∨ ∃ a, i = .i2cReadByte a) → exec i s = .next t →
      t.arg = s.arg ∧ t.op = s.op ∧ t.pitClksel = s.pitClksel ∧ t.pitIe = s.pitIe ∧
      t.pitPeriod = s.pitPeriod ∧ t.pitPend = s.pitPend ∧ t.slpEn = s.slpEn ∧
      t.slpMode = s.slpMode ∧ t.adcEn = s.adcEn ∧ t.pullups = s.pullups ∧ t.asleep = s.asleep ∧
      t.tsBlock = s.tsBlock ∧ t.tsPoll = s.tsPoll ∧ t.params = s.params ∧ t.script = s.script ∧
      t.hostGot = s.hostGot ∧ t.msFeed = s.msFeed ∧ t.syncFeed = s.syncFeed ∧
      t.tickFeed = s.tickFeed ∧
      (s.seqState = .busy → t.err = s.err ∧ t.curOp = s.curOp ∧ t.curArg = s.curArg) ∧
      (s.seqState = .busy → t.pollr = s.pollr) ∧
      (s.seqState = .busy → (∃ d, i = .i2cWriteByte d) → t.rdacc = s.rdacc) ∧
      (s.seqState = .busy → (∃ a, i = .i2cReadByte a) → t.ackv = s.ackv) ∧
      (i = .i2cReadByte false → t.sdaMode = s.sdaMode) ∧
      (s.params.irqResume = .enable → t.ieSaved = s.ieSaved) ∧
      (t.seqState = .busy → t.result = s.result) ∧
      (∀ off : Offset, off ≠ 0x5#4 → (off < 0x8#4 ∨ 0xB#4 < off) → t.windowRead off = s.windowRead off)

/-- R120, R121, R114: Frame of SLEEP_CONFIG and SLEEP. -/
def Obligations.SleepCommandsFrame : Prop :=
  (∀ (x : Word) (s t : State), exec (.sleepConfig x) s = .next t →
      t.arg = s.arg ∧ t.op = s.op ∧ t.ie = s.ie ∧ t.ieSaved = s.ieSaved ∧ t.sclMode = s.sclMode ∧
      t.sdaMode = s.sdaMode ∧ t.pitPend = s.pitPend ∧ t.slpMode = s.slpMode ∧ t.adcEn = s.adcEn ∧
      t.asleep = s.asleep ∧ t.tsBlock = s.tsBlock ∧ t.tsPoll = s.tsPoll ∧ t.params = s.params ∧
      t.script = s.script ∧ t.hostGot = s.hostGot ∧ t.sdaFeed = s.sdaFeed ∧ t.msFeed = s.msFeed ∧
      t.tickFeed = s.tickFeed ∧
      (s.seqState = .busy → t.err = s.err ∧ t.curOp = s.curOp ∧ t.curArg = s.curArg) ∧
      (s.seqState = .busy → t.rdacc = s.rdacc ∧ t.ackv = s.ackv ∧ t.pollr = s.pollr) ∧ (t.seqState = .busy → t.result = s.result) ∧
      (∀ off : Offset, off ≠ 0x5#4 → (off < 0x8#4 ∨ 0xB#4 < off) → t.windowRead off = s.windowRead off)) ∧
    (∀ (n : Word) (s t : State), exec (.sleep n) s = .next t →
      t.arg = s.arg ∧ t.op = s.op ∧ t.ie = s.ie ∧ t.ieSaved = s.ieSaved ∧ t.sclMode = s.sclMode ∧
      t.sdaMode = s.sdaMode ∧ t.pitClksel = s.pitClksel ∧ t.pitIe = s.pitIe ∧
      t.pitPeriod = s.pitPeriod ∧ t.pitPend = s.pitPend ∧ t.slpEn = s.slpEn ∧
      t.pullups = s.pullups ∧ t.tsBlock = s.tsBlock ∧ t.tsPoll = s.tsPoll ∧ t.params = s.params ∧
      t.script = s.script ∧ t.hostGot = s.hostGot ∧ t.sdaFeed = s.sdaFeed ∧ t.msFeed = s.msFeed ∧
      t.syncFeed = s.syncFeed ∧ t.tickFeed = s.tickFeed ∧
      (s.seqState = .busy → t.err = s.err ∧ t.curOp = s.curOp ∧ t.curArg = s.curArg) ∧
      (s.seqState = .busy → t.rdacc = s.rdacc ∧ t.ackv = s.ackv ∧ t.pollr = s.pollr) ∧
      (s.asleep = true → t.asleep = true) ∧ (t.seqState = .busy → t.result = s.result) ∧
      (∀ off : Offset, off ≠ 0x5#4 → (off < 0x8#4 ∨ 0xB#4 < off) → t.windowRead off = s.windowRead off))

/-- R76: The two timestamps are independent: only DELAY_BLOCKING writes TS_BLOCK, only DELAY_POLL writes TS_POLL. -/
def Obligations.TimestampWriters : Prop :=
  (∀ (i : Instr) (s t : State), exec i s = .next t →
      (t.tsBlock ≠ s.tsBlock → ∃ ms, i = .delayBlocking ms) ∧ (t.tsPoll ≠ s.tsPoll → ∃ ms, i = .delayPoll ms)) ∧
    (∀ s t : State, step s = .next t → (t.tsBlock ≠ s.tsBlock ∨ t.tsPoll ≠ s.tsPoll) → s.seqTurn)

/-- R21, R22, R23, R24, R25, R130: Who writes ARG, OP, STATUS and RESULT, and that no step changes the parameters.
-/
def Obligations.RegisterWriters : Prop :=
  ∀ s t : State, step s = .next t →
    (t.arg ≠ s.arg → s.hostTurn ∧ ∃ off v rest, s.script = .write 1 off v :: rest ∧ off ≤ 0x3#4) ∧
    ((t.op ≠ s.op ∨ t.err ≠ s.err) → s.hostTurn ∧ ∃ v rest, s.script = .write 1 0x4#4 v :: rest) ∧
    (t.result ≠ s.result → s.seqTurn ∧ t.seqState = .idle) ∧
    (s.seqState = .busy → t.seqState = .idle → s.seqTurn ∧ t.trace = s.trace ++ [.done t.result]) ∧
    t.params = s.params

/-- R31, R32, R105: Who writes IE: the host's own write, or the first or last micro-op of a byte operation. -/
def Obligations.InterruptEnableWriters : Prop :=
  ∀ s t : State, step s = .next t → t.ie ≠ s.ie →
    (s.hostTurn ∧ ∃ v rest, s.script = .setIe v :: rest) ∨
    (s.seqTurn ∧ ∃ i μ, s.current = some i ∧ i.masksIrq = true ∧ i.program s.params = some μ ∧
      (s.upc = 0 ∨ s.upc + 1 = μ.length))

/-- R82, R34: The clock pin, once driven, is never released. -/
def Obligations.ClockNeverReleasedAgain : Prop :=
  ∀ s t : State, step s = .next t →
    (s.sclMode ≠ .released → t.sclMode ≠ .released) ∧ (t.sclMode ≠ s.sclMode → s.seqTurn ∧ t.sclMode ≠ .released)

/-- R123, R33: Nothing the sleep unit sets is undone by a step. -/
def Obligations.SleepSetupIsNeverUndone : Prop :=
  ∀ s t : State, step s = .next t →
    (s.pullups = true → t.pullups = true) ∧ (s.pitClksel = .lowfreqInternal → t.pitClksel = .lowfreqInternal) ∧
    (s.pitIe = true → t.pitIe = true) ∧ (s.slpEn = true → t.slpEn = true) ∧
    (s.slpMode = .powerDown → t.slpMode = .powerDown) ∧
    (t.pitPeriod ≠ s.pitPeriod → t.pitPeriod ≠ none ∧ s.seqTurn ∧ ∃ x, s.current = some (.sleepConfig x)) ∧
    (t.adcEn ≠ s.adcEn → s.seqTurn ∧ ∃ n, s.current = some (.sleep n))

/-- R37, R18: Every step appends one event or two; one without changes nothing (the step at which no agent is
enabled is the model's choice, log entry 3). -/
def Obligations.TraceOnlyGrows : Prop :=
  ∀ s t : State, step s = .next t →
    ∃ evs : List Event, t.trace = s.trace ++ evs ∧ evs.length ≤ 2 ∧ (evs = [] → t = s.tickChosen)

/-- R54, R21, R47: A running command reads neither ARG, OP, STATUS, RESULT nor the host's accesses. -/
def Obligations.RunningCommandReadsNoWindow : Prop :=
  ∀ (s : State) (a : Word) (o : Byte) (e : BitVec 2) (r : Word) (l : List HostAction) (g : List Byte),
    s.seqState = .busy →
    step { s with arg := a, op := o, err := e, result := r, script := l, hostGot := g } =
      match step s with
      | .next t => .next { t with
          arg := a, op := o, err := e, result := if t.seqState = .idle then t.result else r, script := l, hostGot := g }
      | .fault f => .fault f
      | .refused f => .refused f

/-- R107, R162: In a byte operation entered with the clock low, data changes only while the clock is low. -/
def Obligations.DataChangesOnlyWithClockLow : Prop :=
  ∀ (i : Instr) (s t : State) (μ : List MicroOp) (m : MicroOp) (k : Nat), i.masksIrq = true → s.seqState = .idle →
    s.sclMode = .driveLow → i.program s.params = some μ → execRun i k s = .next t → t.seqState = .busy →
    μ[t.upc]? = some m → (m = .sdaLo ∨ m = .sdaHi ∨ m = .sdaRel) → t.sclMode = .driveLow

/-- R39, R155: The invariant holds after reset. -/
def Obligations.InvariantAtReset : Prop :=
  State.reset.Inv

/-- R57, R58, R92, R103, R118, R120, R125, R131, R136: Every step keeps the machine's invariant. -/
def Obligations.InvariantKeptByEveryStep : Prop :=
  ∀ s t : State, s.Inv → step s = .next t → t.Inv

/-- R126, R159: No step faults from a state that meets the invariant. -/
def Obligations.NoFaultFromInvariant : Prop :=
  ∀ (s : State) (f : Fault), s.Inv → step s ≠ .fault f
end

