-- ==== Sys2Proof/Laws/State.lean ====
section
/-! SUPPORT. One lemma per field per update of the state, each true by rfl; for the two updates with a case, by splitting it. -/

namespace Sys2Proof.Machine

/-! ### `emit` -/

@[simp] theorem State.emit_arg (s : State) (e : Event) : (s.emit e).arg = s.arg := rfl
@[simp] theorem State.emit_op (s : State) (e : Event) : (s.emit e).op = s.op := rfl
@[simp] theorem State.emit_result (s : State) (e : Event) : (s.emit e).result = s.result := rfl
@[simp] theorem State.emit_err (s : State) (e : Event) : (s.emit e).err = s.err := rfl
@[simp] theorem State.emit_seqState (s : State) (e : Event) : (s.emit e).seqState = s.seqState := rfl
@[simp] theorem State.emit_curOp (s : State) (e : Event) : (s.emit e).curOp = s.curOp := rfl
@[simp] theorem State.emit_curArg (s : State) (e : Event) : (s.emit e).curArg = s.curArg := rfl
@[simp] theorem State.emit_upc (s : State) (e : Event) : (s.emit e).upc = s.upc := rfl
@[simp] theorem State.emit_rdacc (s : State) (e : Event) : (s.emit e).rdacc = s.rdacc := rfl
@[simp] theorem State.emit_ackv (s : State) (e : Event) : (s.emit e).ackv = s.ackv := rfl
@[simp] theorem State.emit_pollr (s : State) (e : Event) : (s.emit e).pollr = s.pollr := rfl
@[simp] theorem State.emit_ie (s : State) (e : Event) : (s.emit e).ie = s.ie := rfl
@[simp] theorem State.emit_ieSaved (s : State) (e : Event) : (s.emit e).ieSaved = s.ieSaved := rfl
@[simp] theorem State.emit_sclMode (s : State) (e : Event) : (s.emit e).sclMode = s.sclMode := rfl
@[simp] theorem State.emit_sdaMode (s : State) (e : Event) : (s.emit e).sdaMode = s.sdaMode := rfl
@[simp] theorem State.emit_pitClksel (s : State) (e : Event) : (s.emit e).pitClksel = s.pitClksel := rfl
@[simp] theorem State.emit_pitIe (s : State) (e : Event) : (s.emit e).pitIe = s.pitIe := rfl
@[simp] theorem State.emit_pitPeriod (s : State) (e : Event) : (s.emit e).pitPeriod = s.pitPeriod := rfl
@[simp] theorem State.emit_pitPend (s : State) (e : Event) : (s.emit e).pitPend = s.pitPend := rfl
@[simp] theorem State.emit_slpEn (s : State) (e : Event) : (s.emit e).slpEn = s.slpEn := rfl
@[simp] theorem State.emit_slpMode (s : State) (e : Event) : (s.emit e).slpMode = s.slpMode := rfl
@[simp] theorem State.emit_adcEn (s : State) (e : Event) : (s.emit e).adcEn = s.adcEn := rfl
@[simp] theorem State.emit_pullups (s : State) (e : Event) : (s.emit e).pullups = s.pullups := rfl
@[simp] theorem State.emit_asleep (s : State) (e : Event) : (s.emit e).asleep = s.asleep := rfl
@[simp] theorem State.emit_tsBlock (s : State) (e : Event) : (s.emit e).tsBlock = s.tsBlock := rfl
@[simp] theorem State.emit_tsPoll (s : State) (e : Event) : (s.emit e).tsPoll = s.tsPoll := rfl
@[simp] theorem State.emit_trace (s : State) (e : Event) : (s.emit e).trace = s.trace ++ [e] := rfl
@[simp] theorem State.emit_params (s : State) (e : Event) : (s.emit e).params = s.params := rfl
@[simp] theorem State.emit_script (s : State) (e : Event) : (s.emit e).script = s.script := rfl
@[simp] theorem State.emit_hostGot (s : State) (e : Event) : (s.emit e).hostGot = s.hostGot := rfl
@[simp] theorem State.emit_sdaFeed (s : State) (e : Event) : (s.emit e).sdaFeed = s.sdaFeed := rfl
@[simp] theorem State.emit_msFeed (s : State) (e : Event) : (s.emit e).msFeed = s.msFeed := rfl
@[simp] theorem State.emit_syncFeed (s : State) (e : Event) : (s.emit e).syncFeed = s.syncFeed := rfl
@[simp] theorem State.emit_tickFeed (s : State) (e : Event) : (s.emit e).tickFeed = s.tickFeed := rfl

/-! ### `advance` -/

@[simp] theorem State.advance_arg (s : State) : (s.advance).arg = s.arg := rfl
@[simp] theorem State.advance_op (s : State) : (s.advance).op = s.op := rfl
@[simp] theorem State.advance_result (s : State) : (s.advance).result = s.result := rfl
@[simp] theorem State.advance_err (s : State) : (s.advance).err = s.err := rfl
@[simp] theorem State.advance_seqState (s : State) : (s.advance).seqState = s.seqState := rfl
@[simp] theorem State.advance_curOp (s : State) : (s.advance).curOp = s.curOp := rfl
@[simp] theorem State.advance_curArg (s : State) : (s.advance).curArg = s.curArg := rfl
@[simp] theorem State.advance_upc (s : State) : (s.advance).upc = s.upc + 1 := rfl
@[simp] theorem State.advance_rdacc (s : State) : (s.advance).rdacc = s.rdacc := rfl
@[simp] theorem State.advance_ackv (s : State) : (s.advance).ackv = s.ackv := rfl
@[simp] theorem State.advance_pollr (s : State) : (s.advance).pollr = s.pollr := rfl
@[simp] theorem State.advance_ie (s : State) : (s.advance).ie = s.ie := rfl
@[simp] theorem State.advance_ieSaved (s : State) : (s.advance).ieSaved = s.ieSaved := rfl
@[simp] theorem State.advance_sclMode (s : State) : (s.advance).sclMode = s.sclMode := rfl
@[simp] theorem State.advance_sdaMode (s : State) : (s.advance).sdaMode = s.sdaMode := rfl
@[simp] theorem State.advance_pitClksel (s : State) : (s.advance).pitClksel = s.pitClksel := rfl
@[simp] theorem State.advance_pitIe (s : State) : (s.advance).pitIe = s.pitIe := rfl
@[simp] theorem State.advance_pitPeriod (s : State) : (s.advance).pitPeriod = s.pitPeriod := rfl
@[simp] theorem State.advance_pitPend (s : State) : (s.advance).pitPend = s.pitPend := rfl
@[simp] theorem State.advance_slpEn (s : State) : (s.advance).slpEn = s.slpEn := rfl
@[simp] theorem State.advance_slpMode (s : State) : (s.advance).slpMode = s.slpMode := rfl
@[simp] theorem State.advance_adcEn (s : State) : (s.advance).adcEn = s.adcEn := rfl
@[simp] theorem State.advance_pullups (s : State) : (s.advance).pullups = s.pullups := rfl
@[simp] theorem State.advance_asleep (s : State) : (s.advance).asleep = s.asleep := rfl
@[simp] theorem State.advance_tsBlock (s : State) : (s.advance).tsBlock = s.tsBlock := rfl
@[simp] theorem State.advance_tsPoll (s : State) : (s.advance).tsPoll = s.tsPoll := rfl
@[simp] theorem State.advance_trace (s : State) : (s.advance).trace = s.trace := rfl
@[simp] theorem State.advance_params (s : State) : (s.advance).params = s.params := rfl
@[simp] theorem State.advance_script (s : State) : (s.advance).script = s.script := rfl
@[simp] theorem State.advance_hostGot (s : State) : (s.advance).hostGot = s.hostGot := rfl
@[simp] theorem State.advance_sdaFeed (s : State) : (s.advance).sdaFeed = s.sdaFeed := rfl
@[simp] theorem State.advance_msFeed (s : State) : (s.advance).msFeed = s.msFeed := rfl
@[simp] theorem State.advance_syncFeed (s : State) : (s.advance).syncFeed = s.syncFeed := rfl
@[simp] theorem State.advance_tickFeed (s : State) : (s.advance).tickFeed = s.tickFeed := rfl

/-! ### `memRead` -/

@[simp] theorem State.memRead_arg (s : State) (off : Offset) : (s.memRead off).arg = s.arg := rfl
@[simp] theorem State.memRead_op (s : State) (off : Offset) : (s.memRead off).op = s.op := rfl
@[simp] theorem State.memRead_result (s : State) (off : Offset) : (s.memRead off).result = s.result := rfl
@[simp] theorem State.memRead_err (s : State) (off : Offset) : (s.memRead off).err = s.err := rfl
@[simp] theorem State.memRead_seqState (s : State) (off : Offset) : (s.memRead off).seqState = s.seqState := rfl
@[simp] theorem State.memRead_curOp (s : State) (off : Offset) : (s.memRead off).curOp = s.curOp := rfl
@[simp] theorem State.memRead_curArg (s : State) (off : Offset) : (s.memRead off).curArg = s.curArg := rfl
@[simp] theorem State.memRead_upc (s : State) (off : Offset) : (s.memRead off).upc = s.upc := rfl
@[simp] theorem State.memRead_rdacc (s : State) (off : Offset) : (s.memRead off).rdacc = s.rdacc := rfl
@[simp] theorem State.memRead_ackv (s : State) (off : Offset) : (s.memRead off).ackv = s.ackv := rfl
@[simp] theorem State.memRead_pollr (s : State) (off : Offset) : (s.memRead off).pollr = s.pollr := rfl
@[simp] theorem State.memRead_ie (s : State) (off : Offset) : (s.memRead off).ie = s.ie := rfl
@[simp] theorem State.memRead_ieSaved (s : State) (off : Offset) : (s.memRead off).ieSaved = s.ieSaved := rfl
@[simp] theorem State.memRead_sclMode (s : State) (off : Offset) : (s.memRead off).sclMode = s.sclMode := rfl
@[simp] theorem State.memRead_sdaMode (s : State) (off : Offset) : (s.memRead off).sdaMode = s.sdaMode := rfl
@[simp] theorem State.memRead_pitClksel (s : State) (off : Offset) : (s.memRead off).pitClksel = s.pitClksel := rfl
@[simp] theorem State.memRead_pitIe (s : State) (off : Offset) : (s.memRead off).pitIe = s.pitIe := rfl
@[simp] theorem State.memRead_pitPeriod (s : State) (off : Offset) : (s.memRead off).pitPeriod = s.pitPeriod := rfl
@[simp] theorem State.memRead_pitPend (s : State) (off : Offset) : (s.memRead off).pitPend = s.pitPend := rfl
@[simp] theorem State.memRead_slpEn (s : State) (off : Offset) : (s.memRead off).slpEn = s.slpEn := rfl
@[simp] theorem State.memRead_slpMode (s : State) (off : Offset) : (s.memRead off).slpMode = s.slpMode := rfl
@[simp] theorem State.memRead_adcEn (s : State) (off : Offset) : (s.memRead off).adcEn = s.adcEn := rfl
@[simp] theorem State.memRead_pullups (s : State) (off : Offset) : (s.memRead off).pullups = s.pullups := rfl
@[simp] theorem State.memRead_asleep (s : State) (off : Offset) : (s.memRead off).asleep = s.asleep := rfl
@[simp] theorem State.memRead_tsBlock (s : State) (off : Offset) : (s.memRead off).tsBlock = s.tsBlock := rfl
@[simp] theorem State.memRead_tsPoll (s : State) (off : Offset) : (s.memRead off).tsPoll = s.tsPoll := rfl
@[simp] theorem State.memRead_trace (s : State) (off : Offset) : (s.memRead off).trace = s.trace ++ [.rd off] := rfl
@[simp] theorem State.memRead_params (s : State) (off : Offset) : (s.memRead off).params = s.params := rfl
@[simp] theorem State.memRead_script (s : State) (off : Offset) : (s.memRead off).script = s.script := rfl
@[simp] theorem State.memRead_hostGot (s : State) (off : Offset) : (s.memRead off).hostGot = s.hostGot ++ [s.windowRead off] := rfl
@[simp] theorem State.memRead_sdaFeed (s : State) (off : Offset) : (s.memRead off).sdaFeed = s.sdaFeed := rfl
@[simp] theorem State.memRead_msFeed (s : State) (off : Offset) : (s.memRead off).msFeed = s.msFeed := rfl
@[simp] theorem State.memRead_syncFeed (s : State) (off : Offset) : (s.memRead off).syncFeed = s.syncFeed := rfl
@[simp] theorem State.memRead_tickFeed (s : State) (off : Offset) : (s.memRead off).tickFeed = s.tickFeed := rfl

/-! ### `memWrite` -/

@[simp] theorem State.memWrite_arg (s : State) (off : Offset) (v : Byte) : (s.memWrite off v).arg = setArgByte s.arg off v := rfl
@[simp] theorem State.memWrite_op (s : State) (off : Offset) (v : Byte) : (s.memWrite off v).op = s.op := rfl
@[simp] theorem State.memWrite_result (s : State) (off : Offset) (v : Byte) : (s.memWrite off v).result = s.result := rfl
@[simp] theorem State.memWrite_err (s : State) (off : Offset) (v : Byte) : (s.memWrite off v).err = s.err := rfl
@[simp] theorem State.memWrite_seqState (s : State) (off : Offset) (v : Byte) : (s.memWrite off v).seqState = s.seqState := rfl
@[simp] theorem State.memWrite_curOp (s : State) (off : Offset) (v : Byte) : (s.memWrite off v).curOp = s.curOp := rfl
@[simp] theorem State.memWrite_curArg (s : State) (off : Offset) (v : Byte) : (s.memWrite off v).curArg = s.curArg := rfl
@[simp] theorem State.memWrite_upc (s : State) (off : Offset) (v : Byte) : (s.memWrite off v).upc = s.upc := rfl
@[simp] theorem State.memWrite_rdacc (s : State) (off : Offset) (v : Byte) : (s.memWrite off v).rdacc = s.rdacc := rfl
@[simp] theorem State.memWrite_ackv (s : State) (off : Offset) (v : Byte) : (s.memWrite off v).ackv = s.ackv := rfl
@[simp] theorem State.memWrite_pollr (s : State) (off : Offset) (v : Byte) : (s.memWrite off v).pollr = s.pollr := rfl
@[simp] theorem State.memWrite_ie (s : State) (off : Offset) (v : Byte) : (s.memWrite off v).ie = s.ie := rfl
@[simp] theorem State.memWrite_ieSaved (s : State) (off : Offset) (v : Byte) : (s.memWrite off v).ieSaved = s.ieSaved := rfl
@[simp] theorem State.memWrite_sclMode (s : State) (off : Offset) (v : Byte) : (s.memWrite off v).sclMode = s.sclMode := rfl
@[simp] theorem State.memWrite_sdaMode (s : State) (off : Offset) (v : Byte) : (s.memWrite off v).sdaMode = s.sdaMode := rfl
@[simp] theorem State.memWrite_pitClksel (s : State) (off : Offset) (v : Byte) : (s.memWrite off v).pitClksel = s.pitClksel := rfl
@[simp] theorem State.memWrite_pitIe (s : State) (off : Offset) (v : Byte) : (s.memWrite off v).pitIe = s.pitIe := rfl
@[simp] theorem State.memWrite_pitPeriod (s : State) (off : Offset) (v : Byte) : (s.memWrite off v).pitPeriod = s.pitPeriod := rfl
@[simp] theorem State.memWrite_pitPend (s : State) (off : Offset) (v : Byte) : (s.memWrite off v).pitPend = s.pitPend := rfl
@[simp] theorem State.memWrite_slpEn (s : State) (off : Offset) (v : Byte) : (s.memWrite off v).slpEn = s.slpEn := rfl
@[simp] theorem State.memWrite_slpMode (s : State) (off : Offset) (v : Byte) : (s.memWrite off v).slpMode = s.slpMode := rfl
@[simp] theorem State.memWrite_adcEn (s : State) (off : Offset) (v : Byte) : (s.memWrite off v).adcEn = s.adcEn := rfl
@[simp] theorem State.memWrite_pullups (s : State) (off : Offset) (v : Byte) : (s.memWrite off v).pullups = s.pullups := rfl
@[simp] theorem State.memWrite_asleep (s : State) (off : Offset) (v : Byte) : (s.memWrite off v).asleep = s.asleep := rfl
@[simp] theorem State.memWrite_tsBlock (s : State) (off : Offset) (v : Byte) : (s.memWrite off v).tsBlock = s.tsBlock := rfl
@[simp] theorem State.memWrite_tsPoll (s : State) (off : Offset) (v : Byte) : (s.memWrite off v).tsPoll = s.tsPoll := rfl
@[simp] theorem State.memWrite_trace (s : State) (off : Offset) (v : Byte) : (s.memWrite off v).trace = s.trace ++ [.wr off v] := rfl
@[simp] theorem State.memWrite_params (s : State) (off : Offset) (v : Byte) : (s.memWrite off v).params = s.params := rfl
@[simp] theorem State.memWrite_script (s : State) (off : Offset) (v : Byte) : (s.memWrite off v).script = s.script := rfl
@[simp] theorem State.memWrite_hostGot (s : State) (off : Offset) (v : Byte) : (s.memWrite off v).hostGot = s.hostGot := rfl
@[simp] theorem State.memWrite_sdaFeed (s : State) (off : Offset) (v : Byte) : (s.memWrite off v).sdaFeed = s.sdaFeed := rfl
@[simp] theorem State.memWrite_msFeed (s : State) (off : Offset) (v : Byte) : (s.memWrite off v).msFeed = s.msFeed := rfl
@[simp] theorem State.memWrite_syncFeed (s : State) (off : Offset) (v : Byte) : (s.memWrite off v).syncFeed = s.syncFeed := rfl
@[simp] theorem State.memWrite_tickFeed (s : State) (off : Offset) (v : Byte) : (s.memWrite off v).tickFeed = s.tickFeed := rfl

/-! ### `setIe` -/

@[simp] theorem State.setIe_arg (s : State) (v : Bool) : (s.setIe v).arg = s.arg := rfl
@[simp] theorem State.setIe_op (s : State) (v : Bool) : (s.setIe v).op = s.op := rfl
@[simp] theorem State.setIe_result (s : State) (v : Bool) : (s.setIe v).result = s.result := rfl
@[simp] theorem State.setIe_err (s : State) (v : Bool) : (s.setIe v).err = s.err := rfl
@[simp] theorem State.setIe_seqState (s : State) (v : Bool) : (s.setIe v).seqState = s.seqState := rfl
@[simp] theorem State.setIe_curOp (s : State) (v : Bool) : (s.setIe v).curOp = s.curOp := rfl
@[simp] theorem State.setIe_curArg (s : State) (v : Bool) : (s.setIe v).curArg = s.curArg := rfl
@[simp] theorem State.setIe_upc (s : State) (v : Bool) : (s.setIe v).upc = s.upc := rfl
@[simp] theorem State.setIe_rdacc (s : State) (v : Bool) : (s.setIe v).rdacc = s.rdacc := rfl
@[simp] theorem State.setIe_ackv (s : State) (v : Bool) : (s.setIe v).ackv = s.ackv := rfl
@[simp] theorem State.setIe_pollr (s : State) (v : Bool) : (s.setIe v).pollr = s.pollr := rfl
@[simp] theorem State.setIe_ie (s : State) (v : Bool) : (s.setIe v).ie = v := rfl
@[simp] theorem State.setIe_ieSaved (s : State) (v : Bool) : (s.setIe v).ieSaved = s.ieSaved := rfl
@[simp] theorem State.setIe_sclMode (s : State) (v : Bool) : (s.setIe v).sclMode = s.sclMode := rfl
@[simp] theorem State.setIe_sdaMode (s : State) (v : Bool) : (s.setIe v).sdaMode = s.sdaMode := rfl
@[simp] theorem State.setIe_pitClksel (s : State) (v : Bool) : (s.setIe v).pitClksel = s.pitClksel := rfl
@[simp] theorem State.setIe_pitIe (s : State) (v : Bool) : (s.setIe v).pitIe = s.pitIe := rfl
@[simp] theorem State.setIe_pitPeriod (s : State) (v : Bool) : (s.setIe v).pitPeriod = s.pitPeriod := rfl
@[simp] theorem State.setIe_pitPend (s : State) (v : Bool) : (s.setIe v).pitPend = s.pitPend := rfl
@[simp] theorem State.setIe_slpEn (s : State) (v : Bool) : (s.setIe v).slpEn = s.slpEn := rfl
@[simp] theorem State.setIe_slpMode (s : State) (v : Bool) : (s.setIe v).slpMode = s.slpMode := rfl
@[simp] theorem State.setIe_adcEn (s : State) (v : Bool) : (s.setIe v).adcEn = s.adcEn := rfl
@[simp] theorem State.setIe_pullups (s : State) (v : Bool) : (s.setIe v).pullups = s.pullups := rfl
@[simp] theorem State.setIe_asleep (s : State) (v : Bool) : (s.setIe v).asleep = s.asleep := rfl
@[simp] theorem State.setIe_tsBlock (s : State) (v : Bool) : (s.setIe v).tsBlock = s.tsBlock := rfl
@[simp] theorem State.setIe_tsPoll (s : State) (v : Bool) : (s.setIe v).tsPoll = s.tsPoll := rfl
@[simp] theorem State.setIe_trace (s : State) (v : Bool) : (s.setIe v).trace = s.trace ++ [.irq v] := rfl
@[simp] theorem State.setIe_params (s : State) (v : Bool) : (s.setIe v).params = s.params := rfl
@[simp] theorem State.setIe_script (s : State) (v : Bool) : (s.setIe v).script = s.script := rfl
@[simp] theorem State.setIe_hostGot (s : State) (v : Bool) : (s.setIe v).hostGot = s.hostGot := rfl
@[simp] theorem State.setIe_sdaFeed (s : State) (v : Bool) : (s.setIe v).sdaFeed = s.sdaFeed := rfl
@[simp] theorem State.setIe_msFeed (s : State) (v : Bool) : (s.setIe v).msFeed = s.msFeed := rfl
@[simp] theorem State.setIe_syncFeed (s : State) (v : Bool) : (s.setIe v).syncFeed = s.syncFeed := rfl
@[simp] theorem State.setIe_tickFeed (s : State) (v : Bool) : (s.setIe v).tickFeed = s.tickFeed := rfl

/-! ### `writeOp` -/

@[simp] theorem State.writeOp_arg (s : State) (v : Byte) : (s.writeOp v).arg = s.arg := rfl
@[simp] theorem State.writeOp_op (s : State) (v : Byte) : (s.writeOp v).op = v := rfl
@[simp] theorem State.writeOp_result (s : State) (v : Byte) : (s.writeOp v).result = s.result := rfl
@[simp] theorem State.writeOp_err (s : State) (v : Byte) : (s.writeOp v).err = s.err := rfl
@[simp] theorem State.writeOp_seqState (s : State) (v : Byte) : (s.writeOp v).seqState = s.seqState := rfl
@[simp] theorem State.writeOp_curOp (s : State) (v : Byte) : (s.writeOp v).curOp = s.curOp := rfl
@[simp] theorem State.writeOp_curArg (s : State) (v : Byte) : (s.writeOp v).curArg = s.curArg := rfl
@[simp] theorem State.writeOp_upc (s : State) (v : Byte) : (s.writeOp v).upc = s.upc := rfl
@[simp] theorem State.writeOp_rdacc (s : State) (v : Byte) : (s.writeOp v).rdacc = s.rdacc := rfl
@[simp] theorem State.writeOp_ackv (s : State) (v : Byte) : (s.writeOp v).ackv = s.ackv := rfl
@[simp] theorem State.writeOp_pollr (s : State) (v : Byte) : (s.writeOp v).pollr = s.pollr := rfl
@[simp] theorem State.writeOp_ie (s : State) (v : Byte) : (s.writeOp v).ie = s.ie := rfl
@[simp] theorem State.writeOp_ieSaved (s : State) (v : Byte) : (s.writeOp v).ieSaved = s.ieSaved := rfl
@[simp] theorem State.writeOp_sclMode (s : State) (v : Byte) : (s.writeOp v).sclMode = s.sclMode := rfl
@[simp] theorem State.writeOp_sdaMode (s : State) (v : Byte) : (s.writeOp v).sdaMode = s.sdaMode := rfl
@[simp] theorem State.writeOp_pitClksel (s : State) (v : Byte) : (s.writeOp v).pitClksel = s.pitClksel := rfl
@[simp] theorem State.writeOp_pitIe (s : State) (v : Byte) : (s.writeOp v).pitIe = s.pitIe := rfl
@[simp] theorem State.writeOp_pitPeriod (s : State) (v : Byte) : (s.writeOp v).pitPeriod = s.pitPeriod := rfl
@[simp] theorem State.writeOp_pitPend (s : State) (v : Byte) : (s.writeOp v).pitPend = s.pitPend := rfl
@[simp] theorem State.writeOp_slpEn (s : State) (v : Byte) : (s.writeOp v).slpEn = s.slpEn := rfl
@[simp] theorem State.writeOp_slpMode (s : State) (v : Byte) : (s.writeOp v).slpMode = s.slpMode := rfl
@[simp] theorem State.writeOp_adcEn (s : State) (v : Byte) : (s.writeOp v).adcEn = s.adcEn := rfl
@[simp] theorem State.writeOp_pullups (s : State) (v : Byte) : (s.writeOp v).pullups = s.pullups := rfl
@[simp] theorem State.writeOp_asleep (s : State) (v : Byte) : (s.writeOp v).asleep = s.asleep := rfl
@[simp] theorem State.writeOp_tsBlock (s : State) (v : Byte) : (s.writeOp v).tsBlock = s.tsBlock := rfl
@[simp] theorem State.writeOp_tsPoll (s : State) (v : Byte) : (s.writeOp v).tsPoll = s.tsPoll := rfl
@[simp] theorem State.writeOp_trace (s : State) (v : Byte) : (s.writeOp v).trace = s.trace ++ [.wr 0x4#4 v] := rfl
@[simp] theorem State.writeOp_params (s : State) (v : Byte) : (s.writeOp v).params = s.params := rfl
@[simp] theorem State.writeOp_script (s : State) (v : Byte) : (s.writeOp v).script = s.script := rfl
@[simp] theorem State.writeOp_hostGot (s : State) (v : Byte) : (s.writeOp v).hostGot = s.hostGot := rfl
@[simp] theorem State.writeOp_sdaFeed (s : State) (v : Byte) : (s.writeOp v).sdaFeed = s.sdaFeed := rfl
@[simp] theorem State.writeOp_msFeed (s : State) (v : Byte) : (s.writeOp v).msFeed = s.msFeed := rfl
@[simp] theorem State.writeOp_syncFeed (s : State) (v : Byte) : (s.writeOp v).syncFeed = s.syncFeed := rfl
@[simp] theorem State.writeOp_tickFeed (s : State) (v : Byte) : (s.writeOp v).tickFeed = s.tickFeed := rfl

/-! ### `raiseCmdError` -/

@[simp] theorem State.raiseCmdError_arg (s : State) (c : CmdError) : (s.raiseCmdError c).arg = s.arg := rfl
@[simp] theorem State.raiseCmdError_op (s : State) (c : CmdError) : (s.raiseCmdError c).op = s.op := rfl
@[simp] theorem State.raiseCmdError_result (s : State) (c : CmdError) : (s.raiseCmdError c).result = s.result := rfl
@[simp] theorem State.raiseCmdError_err (s : State) (c : CmdError) : (s.raiseCmdError c).err = errCode c := rfl
@[simp] theorem State.raiseCmdError_seqState (s : State) (c : CmdError) : (s.raiseCmdError c).seqState = s.seqState := rfl
@[simp] theorem State.raiseCmdError_curOp (s : State) (c : CmdError) : (s.raiseCmdError c).curOp = s.curOp := rfl
@[simp] theorem State.raiseCmdError_curArg (s : State) (c : CmdError) : (s.raiseCmdError c).curArg = s.curArg := rfl
@[simp] theorem State.raiseCmdError_upc (s : State) (c : CmdError) : (s.raiseCmdError c).upc = s.upc := rfl
@[simp] theorem State.raiseCmdError_rdacc (s : State) (c : CmdError) : (s.raiseCmdError c).rdacc = s.rdacc := rfl
@[simp] theorem State.raiseCmdError_ackv (s : State) (c : CmdError) : (s.raiseCmdError c).ackv = s.ackv := rfl
@[simp] theorem State.raiseCmdError_pollr (s : State) (c : CmdError) : (s.raiseCmdError c).pollr = s.pollr := rfl
@[simp] theorem State.raiseCmdError_ie (s : State) (c : CmdError) : (s.raiseCmdError c).ie = s.ie := rfl
@[simp] theorem State.raiseCmdError_ieSaved (s : State) (c : CmdError) : (s.raiseCmdError c).ieSaved = s.ieSaved := rfl
@[simp] theorem State.raiseCmdError_sclMode (s : State) (c : CmdError) : (s.raiseCmdError c).sclMode = s.sclMode := rfl
@[simp] theorem State.raiseCmdError_sdaMode (s : State) (c : CmdError) : (s.raiseCmdError c).sdaMode = s.sdaMode := rfl
@[simp] theorem State.raiseCmdError_pitClksel (s : State) (c : CmdError) : (s.raiseCmdError c).pitClksel = s.pitClksel := rfl
@[simp] theorem State.raiseCmdError_pitIe (s : State) (c : CmdError) : (s.raiseCmdError c).pitIe = s.pitIe := rfl
@[simp] theorem State.raiseCmdError_pitPeriod (s : State) (c : CmdError) : (s.raiseCmdError c).pitPeriod = s.pitPeriod := rfl
@[simp] theorem State.raiseCmdError_pitPend (s : State) (c : CmdError) : (s.raiseCmdError c).pitPend = s.pitPend := rfl
@[simp] theorem State.raiseCmdError_slpEn (s : State) (c : CmdError) : (s.raiseCmdError c).slpEn = s.slpEn := rfl
@[simp] theorem State.raiseCmdError_slpMode (s : State) (c : CmdError) : (s.raiseCmdError c).slpMode = s.slpMode := rfl
@[simp] theorem State.raiseCmdError_adcEn (s : State) (c : CmdError) : (s.raiseCmdError c).adcEn = s.adcEn := rfl
@[simp] theorem State.raiseCmdError_pullups (s : State) (c : CmdError) : (s.raiseCmdError c).pullups = s.pullups := rfl
@[simp] theorem State.raiseCmdError_asleep (s : State) (c : CmdError) : (s.raiseCmdError c).asleep = s.asleep := rfl
@[simp] theorem State.raiseCmdError_tsBlock (s : State) (c : CmdError) : (s.raiseCmdError c).tsBlock = s.tsBlock := rfl
@[simp] theorem State.raiseCmdError_tsPoll (s : State) (c : CmdError) : (s.raiseCmdError c).tsPoll = s.tsPoll := rfl
@[simp] theorem State.raiseCmdError_trace (s : State) (c : CmdError) : (s.raiseCmdError c).trace = s.trace ++ [.err (errCode c)] := rfl
@[simp] theorem State.raiseCmdError_params (s : State) (c : CmdError) : (s.raiseCmdError c).params = s.params := rfl
@[simp] theorem State.raiseCmdError_script (s : State) (c : CmdError) : (s.raiseCmdError c).script = s.script := rfl
@[simp] theorem State.raiseCmdError_hostGot (s : State) (c : CmdError) : (s.raiseCmdError c).hostGot = s.hostGot := rfl
@[simp] theorem State.raiseCmdError_sdaFeed (s : State) (c : CmdError) : (s.raiseCmdError c).sdaFeed = s.sdaFeed := rfl
@[simp] theorem State.raiseCmdError_msFeed (s : State) (c : CmdError) : (s.raiseCmdError c).msFeed = s.msFeed := rfl
@[simp] theorem State.raiseCmdError_syncFeed (s : State) (c : CmdError) : (s.raiseCmdError c).syncFeed = s.syncFeed := rfl
@[simp] theorem State.raiseCmdError_tickFeed (s : State) (c : CmdError) : (s.raiseCmdError c).tickFeed = s.tickFeed := rfl

/-! ### `issue` -/

@[simp] theorem State.issue_arg (s : State) (o : Byte) (a : Word) : (s.issue o a).arg = s.arg := rfl
@[simp] theorem State.issue_op (s : State) (o : Byte) (a : Word) : (s.issue o a).op = s.op := rfl
@[simp] theorem State.issue_result (s : State) (o : Byte) (a : Word) : (s.issue o a).result = s.result := rfl
@[simp] theorem State.issue_err (s : State) (o : Byte) (a : Word) : (s.issue o a).err = 0#2 := rfl
@[simp] theorem State.issue_seqState (s : State) (o : Byte) (a : Word) : (s.issue o a).seqState = .busy := rfl
@[simp] theorem State.issue_curOp (s : State) (o : Byte) (a : Word) : (s.issue o a).curOp = o := rfl
@[simp] theorem State.issue_curArg (s : State) (o : Byte) (a : Word) : (s.issue o a).curArg = a := rfl
@[simp] theorem State.issue_upc (s : State) (o : Byte) (a : Word) : (s.issue o a).upc = 0 := rfl
@[simp] theorem State.issue_rdacc (s : State) (o : Byte) (a : Word) : (s.issue o a).rdacc = 0#8 := rfl
@[simp] theorem State.issue_ackv (s : State) (o : Byte) (a : Word) : (s.issue o a).ackv = false := rfl
@[simp] theorem State.issue_pollr (s : State) (o : Byte) (a : Word) : (s.issue o a).pollr = false := rfl
@[simp] theorem State.issue_ie (s : State) (o : Byte) (a : Word) : (s.issue o a).ie = s.ie := rfl
@[simp] theorem State.issue_ieSaved (s : State) (o : Byte) (a : Word) : (s.issue o a).ieSaved = s.ieSaved := rfl
@[simp] theorem State.issue_sclMode (s : State) (o : Byte) (a : Word) : (s.issue o a).sclMode = s.sclMode := rfl
@[simp] theorem State.issue_sdaMode (s : State) (o : Byte) (a : Word) : (s.issue o a).sdaMode = s.sdaMode := rfl
@[simp] theorem State.issue_pitClksel (s : State) (o : Byte) (a : Word) : (s.issue o a).pitClksel = s.pitClksel := rfl
@[simp] theorem State.issue_pitIe (s : State) (o : Byte) (a : Word) : (s.issue o a).pitIe = s.pitIe := rfl
@[simp] theorem State.issue_pitPeriod (s : State) (o : Byte) (a : Word) : (s.issue o a).pitPeriod = s.pitPeriod := rfl
@[simp] theorem State.issue_pitPend (s : State) (o : Byte) (a : Word) : (s.issue o a).pitPend = s.pitPend := rfl
@[simp] theorem State.issue_slpEn (s : State) (o : Byte) (a : Word) : (s.issue o a).slpEn = s.slpEn := rfl
@[simp] theorem State.issue_slpMode (s : State) (o : Byte) (a : Word) : (s.issue o a).slpMode = s.slpMode := rfl
@[simp] theorem State.issue_adcEn (s : State) (o : Byte) (a : Word) : (s.issue o a).adcEn = s.adcEn := rfl
@[simp] theorem State.issue_pullups (s : State) (o : Byte) (a : Word) : (s.issue o a).pullups = s.pullups := rfl
@[simp] theorem State.issue_asleep (s : State) (o : Byte) (a : Word) : (s.issue o a).asleep = s.asleep := rfl
@[simp] theorem State.issue_tsBlock (s : State) (o : Byte) (a : Word) : (s.issue o a).tsBlock = s.tsBlock := rfl
@[simp] theorem State.issue_tsPoll (s : State) (o : Byte) (a : Word) : (s.issue o a).tsPoll = s.tsPoll := rfl
@[simp] theorem State.issue_trace (s : State) (o : Byte) (a : Word) : (s.issue o a).trace = s.trace ++ [.cmd o a] := rfl
@[simp] theorem State.issue_params (s : State) (o : Byte) (a : Word) : (s.issue o a).params = s.params := rfl
@[simp] theorem State.issue_script (s : State) (o : Byte) (a : Word) : (s.issue o a).script = s.script := rfl
@[simp] theorem State.issue_hostGot (s : State) (o : Byte) (a : Word) : (s.issue o a).hostGot = s.hostGot := rfl
@[simp] theorem State.issue_sdaFeed (s : State) (o : Byte) (a : Word) : (s.issue o a).sdaFeed = s.sdaFeed := rfl
@[simp] theorem State.issue_msFeed (s : State) (o : Byte) (a : Word) : (s.issue o a).msFeed = s.msFeed := rfl
@[simp] theorem State.issue_syncFeed (s : State) (o : Byte) (a : Word) : (s.issue o a).syncFeed = s.syncFeed := rfl
@[simp] theorem State.issue_tickFeed (s : State) (o : Byte) (a : Word) : (s.issue o a).tickFeed = s.tickFeed := rfl

/-! ### `complete` -/

@[simp] theorem State.complete_arg (s : State) (r : Word) : (s.complete r).arg = s.arg := rfl
@[simp] theorem State.complete_op (s : State) (r : Word) : (s.complete r).op = s.op := rfl
@[simp] theorem State.complete_result (s : State) (r : Word) : (s.complete r).result = r := rfl
@[simp] theorem State.complete_err (s : State) (r : Word) : (s.complete r).err = s.err := rfl
@[simp] theorem State.complete_seqState (s : State) (r : Word) : (s.complete r).seqState = .idle := rfl
@[simp] theorem State.complete_curOp (s : State) (r : Word) : (s.complete r).curOp = s.curOp := rfl
@[simp] theorem State.complete_curArg (s : State) (r : Word) : (s.complete r).curArg = s.curArg := rfl
@[simp] theorem State.complete_upc (s : State) (r : Word) : (s.complete r).upc = s.upc := rfl
@[simp] theorem State.complete_rdacc (s : State) (r : Word) : (s.complete r).rdacc = s.rdacc := rfl
@[simp] theorem State.complete_ackv (s : State) (r : Word) : (s.complete r).ackv = s.ackv := rfl
@[simp] theorem State.complete_pollr (s : State) (r : Word) : (s.complete r).pollr = s.pollr := rfl
@[simp] theorem State.complete_ie (s : State) (r : Word) : (s.complete r).ie = s.ie := rfl
@[simp] theorem State.complete_ieSaved (s : State) (r : Word) : (s.complete r).ieSaved = s.ieSaved := rfl
@[simp] theorem State.complete_sclMode (s : State) (r : Word) : (s.complete r).sclMode = s.sclMode := rfl
@[simp] theorem State.complete_sdaMode (s : State) (r : Word) : (s.complete r).sdaMode = s.sdaMode := rfl
@[simp] theorem State.complete_pitClksel (s : State) (r : Word) : (s.complete r).pitClksel = s.pitClksel := rfl
@[simp] theorem State.complete_pitIe (s : State) (r : Word) : (s.complete r).pitIe = s.pitIe := rfl
@[simp] theorem State.complete_pitPeriod (s : State) (r : Word) : (s.complete r).pitPeriod = s.pitPeriod := rfl
@[simp] theorem State.complete_pitPend (s : State) (r : Word) : (s.complete r).pitPend = s.pitPend := rfl
@[simp] theorem State.complete_slpEn (s : State) (r : Word) : (s.complete r).slpEn = s.slpEn := rfl
@[simp] theorem State.complete_slpMode (s : State) (r : Word) : (s.complete r).slpMode = s.slpMode := rfl
@[simp] theorem State.complete_adcEn (s : State) (r : Word) : (s.complete r).adcEn = s.adcEn := rfl
@[simp] theorem State.complete_pullups (s : State) (r : Word) : (s.complete r).pullups = s.pullups := rfl
@[simp] theorem State.complete_asleep (s : State) (r : Word) : (s.complete r).asleep = s.asleep := rfl
@[simp] theorem State.complete_tsBlock (s : State) (r : Word) : (s.complete r).tsBlock = s.tsBlock := rfl
@[simp] theorem State.complete_tsPoll (s : State) (r : Word) : (s.complete r).tsPoll = s.tsPoll := rfl
@[simp] theorem State.complete_trace (s : State) (r : Word) : (s.complete r).trace = s.trace ++ [.done r] := rfl
@[simp] theorem State.complete_params (s : State) (r : Word) : (s.complete r).params = s.params := rfl
@[simp] theorem State.complete_script (s : State) (r : Word) : (s.complete r).script = s.script := rfl
@[simp] theorem State.complete_hostGot (s : State) (r : Word) : (s.complete r).hostGot = s.hostGot := rfl
@[simp] theorem State.complete_sdaFeed (s : State) (r : Word) : (s.complete r).sdaFeed = s.sdaFeed := rfl
@[simp] theorem State.complete_msFeed (s : State) (r : Word) : (s.complete r).msFeed = s.msFeed := rfl
@[simp] theorem State.complete_syncFeed (s : State) (r : Word) : (s.complete r).syncFeed = s.syncFeed := rfl
@[simp] theorem State.complete_tickFeed (s : State) (r : Word) : (s.complete r).tickFeed = s.tickFeed := rfl

/-! ### `tick` -/

@[simp] theorem State.tick_arg (s : State) : (s.tick).arg = s.arg := rfl
@[simp] theorem State.tick_op (s : State) : (s.tick).op = s.op := rfl
@[simp] theorem State.tick_result (s : State) : (s.tick).result = s.result := rfl
@[simp] theorem State.tick_err (s : State) : (s.tick).err = s.err := rfl
@[simp] theorem State.tick_seqState (s : State) : (s.tick).seqState = s.seqState := rfl
@[simp] theorem State.tick_curOp (s : State) : (s.tick).curOp = s.curOp := rfl
@[simp] theorem State.tick_curArg (s : State) : (s.tick).curArg = s.curArg := rfl
@[simp] theorem State.tick_upc (s : State) : (s.tick).upc = s.upc := rfl
@[simp] theorem State.tick_rdacc (s : State) : (s.tick).rdacc = s.rdacc := rfl
@[simp] theorem State.tick_ackv (s : State) : (s.tick).ackv = s.ackv := rfl
@[simp] theorem State.tick_pollr (s : State) : (s.tick).pollr = s.pollr := rfl
@[simp] theorem State.tick_ie (s : State) : (s.tick).ie = s.ie := rfl
@[simp] theorem State.tick_ieSaved (s : State) : (s.tick).ieSaved = s.ieSaved := rfl
@[simp] theorem State.tick_sclMode (s : State) : (s.tick).sclMode = s.sclMode := rfl
@[simp] theorem State.tick_sdaMode (s : State) : (s.tick).sdaMode = s.sdaMode := rfl
@[simp] theorem State.tick_pitClksel (s : State) : (s.tick).pitClksel = s.pitClksel := rfl
@[simp] theorem State.tick_pitIe (s : State) : (s.tick).pitIe = s.pitIe := rfl
@[simp] theorem State.tick_pitPeriod (s : State) : (s.tick).pitPeriod = s.pitPeriod := rfl
@[simp] theorem State.tick_pitPend (s : State) : (s.tick).pitPend = true := rfl
@[simp] theorem State.tick_slpEn (s : State) : (s.tick).slpEn = s.slpEn := rfl
@[simp] theorem State.tick_slpMode (s : State) : (s.tick).slpMode = s.slpMode := rfl
@[simp] theorem State.tick_adcEn (s : State) : (s.tick).adcEn = s.adcEn := rfl
@[simp] theorem State.tick_pullups (s : State) : (s.tick).pullups = s.pullups := rfl
@[simp] theorem State.tick_asleep (s : State) : (s.tick).asleep = s.asleep := rfl
@[simp] theorem State.tick_tsBlock (s : State) : (s.tick).tsBlock = s.tsBlock := rfl
@[simp] theorem State.tick_tsPoll (s : State) : (s.tick).tsPoll = s.tsPoll := rfl
@[simp] theorem State.tick_trace (s : State) : (s.tick).trace = s.trace ++ [.tick] := rfl
@[simp] theorem State.tick_params (s : State) : (s.tick).params = s.params := rfl
@[simp] theorem State.tick_script (s : State) : (s.tick).script = s.script := rfl
@[simp] theorem State.tick_hostGot (s : State) : (s.tick).hostGot = s.hostGot := rfl
@[simp] theorem State.tick_sdaFeed (s : State) : (s.tick).sdaFeed = s.sdaFeed := rfl
@[simp] theorem State.tick_msFeed (s : State) : (s.tick).msFeed = s.msFeed := rfl
@[simp] theorem State.tick_syncFeed (s : State) : (s.tick).syncFeed = s.syncFeed := rfl
@[simp] theorem State.tick_tickFeed (s : State) : (s.tick).tickFeed = s.tickFeed := rfl

/-! ### `tickChosen`: only the tick's feed may change -/

@[simp] theorem State.tickChosen_arg (s : State) : s.tickChosen.arg = s.arg := by
  unfold State.tickChosen; split <;> rfl
@[simp] theorem State.tickChosen_op (s : State) : s.tickChosen.op = s.op := by
  unfold State.tickChosen; split <;> rfl
@[simp] theorem State.tickChosen_result (s : State) : s.tickChosen.result = s.result := by
  unfold State.tickChosen; split <;> rfl
@[simp] theorem State.tickChosen_err (s : State) : s.tickChosen.err = s.err := by
  unfold State.tickChosen; split <;> rfl
@[simp] theorem State.tickChosen_seqState (s : State) : s.tickChosen.seqState = s.seqState := by
  unfold State.tickChosen; split <;> rfl
@[simp] theorem State.tickChosen_curOp (s : State) : s.tickChosen.curOp = s.curOp := by
  unfold State.tickChosen; split <;> rfl
@[simp] theorem State.tickChosen_curArg (s : State) : s.tickChosen.curArg = s.curArg := by
  unfold State.tickChosen; split <;> rfl
@[simp] theorem State.tickChosen_upc (s : State) : s.tickChosen.upc = s.upc := by
  unfold State.tickChosen; split <;> rfl
@[simp] theorem State.tickChosen_rdacc (s : State) : s.tickChosen.rdacc = s.rdacc := by
  unfold State.tickChosen; split <;> rfl
@[simp] theorem State.tickChosen_ackv (s : State) : s.tickChosen.ackv = s.ackv := by
  unfold State.tickChosen; split <;> rfl
@[simp] theorem State.tickChosen_pollr (s : State) : s.tickChosen.pollr = s.pollr := by
  unfold State.tickChosen; split <;> rfl
@[simp] theorem State.tickChosen_ie (s : State) : s.tickChosen.ie = s.ie := by
  unfold State.tickChosen; split <;> rfl
@[simp] theorem State.tickChosen_ieSaved (s : State) : s.tickChosen.ieSaved = s.ieSaved := by
  unfold State.tickChosen; split <;> rfl
@[simp] theorem State.tickChosen_sclMode (s : State) : s.tickChosen.sclMode = s.sclMode := by
  unfold State.tickChosen; split <;> rfl
@[simp] theorem State.tickChosen_sdaMode (s : State) : s.tickChosen.sdaMode = s.sdaMode := by
  unfold State.tickChosen; split <;> rfl
@[simp] theorem State.tickChosen_pitClksel (s : State) : s.tickChosen.pitClksel = s.pitClksel := by
  unfold State.tickChosen; split <;> rfl
@[simp] theorem State.tickChosen_pitIe (s : State) : s.tickChosen.pitIe = s.pitIe := by
  unfold State.tickChosen; split <;> rfl
@[simp] theorem State.tickChosen_pitPeriod (s : State) : s.tickChosen.pitPeriod = s.pitPeriod := by
  unfold State.tickChosen; split <;> rfl
@[simp] theorem State.tickChosen_pitPend (s : State) : s.tickChosen.pitPend = s.pitPend := by
  unfold State.tickChosen; split <;> rfl
@[simp] theorem State.tickChosen_slpEn (s : State) : s.tickChosen.slpEn = s.slpEn := by
  unfold State.tickChosen; split <;> rfl
@[simp] theorem State.tickChosen_slpMode (s : State) : s.tickChosen.slpMode = s.slpMode := by
  unfold State.tickChosen; split <;> rfl
@[simp] theorem State.tickChosen_adcEn (s : State) : s.tickChosen.adcEn = s.adcEn := by
  unfold State.tickChosen; split <;> rfl
@[simp] theorem State.tickChosen_pullups (s : State) : s.tickChosen.pullups = s.pullups := by
  unfold State.tickChosen; split <;> rfl
@[simp] theorem State.tickChosen_asleep (s : State) : s.tickChosen.asleep = s.asleep := by
  unfold State.tickChosen; split <;> rfl
@[simp] theorem State.tickChosen_tsBlock (s : State) : s.tickChosen.tsBlock = s.tsBlock := by
  unfold State.tickChosen; split <;> rfl
@[simp] theorem State.tickChosen_tsPoll (s : State) : s.tickChosen.tsPoll = s.tsPoll := by
  unfold State.tickChosen; split <;> rfl
@[simp] theorem State.tickChosen_trace (s : State) : s.tickChosen.trace = s.trace := by
  unfold State.tickChosen; split <;> rfl
@[simp] theorem State.tickChosen_params (s : State) : s.tickChosen.params = s.params := by
  unfold State.tickChosen; split <;> rfl
@[simp] theorem State.tickChosen_script (s : State) : s.tickChosen.script = s.script := by
  unfold State.tickChosen; split <;> rfl
@[simp] theorem State.tickChosen_hostGot (s : State) : s.tickChosen.hostGot = s.hostGot := by
  unfold State.tickChosen; split <;> rfl
@[simp] theorem State.tickChosen_sdaFeed (s : State) : s.tickChosen.sdaFeed = s.sdaFeed := by
  unfold State.tickChosen; split <;> rfl
@[simp] theorem State.tickChosen_msFeed (s : State) : s.tickChosen.msFeed = s.msFeed := by
  unfold State.tickChosen; split <;> rfl
@[simp] theorem State.tickChosen_syncFeed (s : State) : s.tickChosen.syncFeed = s.syncFeed := by
  unfold State.tickChosen; split <;> rfl

/-! ### `takeIsr` -/

@[simp] theorem State.takeIsr_arg (s : State) : s.takeIsr.arg = s.arg := by
  unfold State.takeIsr; split <;> rfl
@[simp] theorem State.takeIsr_op (s : State) : s.takeIsr.op = s.op := by
  unfold State.takeIsr; split <;> rfl
@[simp] theorem State.takeIsr_result (s : State) : s.takeIsr.result = s.result := by
  unfold State.takeIsr; split <;> rfl
@[simp] theorem State.takeIsr_err (s : State) : s.takeIsr.err = s.err := by
  unfold State.takeIsr; split <;> rfl
@[simp] theorem State.takeIsr_seqState (s : State) : s.takeIsr.seqState = s.seqState := by
  unfold State.takeIsr; split <;> rfl
@[simp] theorem State.takeIsr_curOp (s : State) : s.takeIsr.curOp = s.curOp := by
  unfold State.takeIsr; split <;> rfl
@[simp] theorem State.takeIsr_curArg (s : State) : s.takeIsr.curArg = s.curArg := by
  unfold State.takeIsr; split <;> rfl
@[simp] theorem State.takeIsr_rdacc (s : State) : s.takeIsr.rdacc = s.rdacc := by
  unfold State.takeIsr; split <;> rfl
@[simp] theorem State.takeIsr_ackv (s : State) : s.takeIsr.ackv = s.ackv := by
  unfold State.takeIsr; split <;> rfl
@[simp] theorem State.takeIsr_pollr (s : State) : s.takeIsr.pollr = s.pollr := by
  unfold State.takeIsr; split <;> rfl
@[simp] theorem State.takeIsr_ie (s : State) : s.takeIsr.ie = s.ie := by
  unfold State.takeIsr; split <;> rfl
@[simp] theorem State.takeIsr_ieSaved (s : State) : s.takeIsr.ieSaved = s.ieSaved := by
  unfold State.takeIsr; split <;> rfl
@[simp] theorem State.takeIsr_sclMode (s : State) : s.takeIsr.sclMode = s.sclMode := by
  unfold State.takeIsr; split <;> rfl
@[simp] theorem State.takeIsr_sdaMode (s : State) : s.takeIsr.sdaMode = s.sdaMode := by
  unfold State.takeIsr; split <;> rfl
@[simp] theorem State.takeIsr_pitClksel (s : State) : s.takeIsr.pitClksel = s.pitClksel := by
  unfold State.takeIsr; split <;> rfl
@[simp] theorem State.takeIsr_pitIe (s : State) : s.takeIsr.pitIe = s.pitIe := by
  unfold State.takeIsr; split <;> rfl
@[simp] theorem State.takeIsr_pitPeriod (s : State) : s.takeIsr.pitPeriod = s.pitPeriod := by
  unfold State.takeIsr; split <;> rfl
@[simp] theorem State.takeIsr_slpEn (s : State) : s.takeIsr.slpEn = s.slpEn := by
  unfold State.takeIsr; split <;> rfl
@[simp] theorem State.takeIsr_slpMode (s : State) : s.takeIsr.slpMode = s.slpMode := by
  unfold State.takeIsr; split <;> rfl
@[simp] theorem State.takeIsr_adcEn (s : State) : s.takeIsr.adcEn = s.adcEn := by
  unfold State.takeIsr; split <;> rfl
@[simp] theorem State.takeIsr_pullups (s : State) : s.takeIsr.pullups = s.pullups := by
  unfold State.takeIsr; split <;> rfl
@[simp] theorem State.takeIsr_tsBlock (s : State) : s.takeIsr.tsBlock = s.tsBlock := by
  unfold State.takeIsr; split <;> rfl
@[simp] theorem State.takeIsr_tsPoll (s : State) : s.takeIsr.tsPoll = s.tsPoll := by
  unfold State.takeIsr; split <;> rfl
@[simp] theorem State.takeIsr_params (s : State) : s.takeIsr.params = s.params := by
  unfold State.takeIsr; split <;> rfl
@[simp] theorem State.takeIsr_script (s : State) : s.takeIsr.script = s.script := by
  unfold State.takeIsr; split <;> rfl
@[simp] theorem State.takeIsr_hostGot (s : State) : s.takeIsr.hostGot = s.hostGot := by
  unfold State.takeIsr; split <;> rfl
@[simp] theorem State.takeIsr_sdaFeed (s : State) : s.takeIsr.sdaFeed = s.sdaFeed := by
  unfold State.takeIsr; split <;> rfl
@[simp] theorem State.takeIsr_msFeed (s : State) : s.takeIsr.msFeed = s.msFeed := by
  unfold State.takeIsr; split <;> rfl
@[simp] theorem State.takeIsr_syncFeed (s : State) : s.takeIsr.syncFeed = s.syncFeed := by
  unfold State.takeIsr; split <;> rfl
@[simp] theorem State.takeIsr_tickFeed (s : State) : s.takeIsr.tickFeed = s.tickFeed := by
  unfold State.takeIsr; split <;> rfl

@[simp] theorem State.takeIsr_pitPend (s : State) : s.takeIsr.pitPend = false := by
  unfold State.takeIsr; split <;> rfl

@[simp] theorem State.takeIsr_asleep (s : State) : s.takeIsr.asleep = false := by
  unfold State.takeIsr; split
  · rfl
  · rename_i h; exact (Bool.not_eq_true _).mp h

theorem State.takeIsr_upc (s : State) : s.takeIsr.upc = if s.asleep then s.upc + 1 else s.upc := by
  unfold State.takeIsr; split <;> rfl

theorem State.takeIsr_trace (s : State) :
    s.takeIsr.trace = s.trace ++ if s.asleep then [.isr, .wake] else [.isr] := by
  unfold State.takeIsr; split
  · exact List.append_assoc s.trace [.isr] [.wake]
  · rfl


end Sys2Proof.Machine
end

