-- ==== Sys2Proof/Laws/MicroOps.lean ====
section
/-! SUPPORT. What a micro-op leaves alone, and everything a step of a command can do. -/

namespace Sys2Proof.Machine

/-- Unfolds one micro-op; the rest of a proof works on the fields. -/
theorem runMicro_keeps (m : MicroOp) (s : State) :
    (runMicro m s).arg = s.arg ∧ (runMicro m s).op = s.op ∧ (runMicro m s).result = s.result ∧
    (runMicro m s).err = s.err ∧ (runMicro m s).seqState = s.seqState ∧ (runMicro m s).curOp = s.curOp ∧
    (runMicro m s).curArg = s.curArg ∧ (runMicro m s).pitPend = s.pitPend ∧ (runMicro m s).params = s.params ∧
    (runMicro m s).script = s.script ∧ (runMicro m s).hostGot = s.hostGot ∧
    (runMicro m s).tickFeed = s.tickFeed := by
  cases m <;>
    simp only [runMicro, microSclH, microSclL, microSdaLo, microSdaHi, microSdaRel, microDly, microSmpBit, microSmpAck,
      microIrqOff, microIrqOn, microMsStart, microMsWait, microMsPoll, microPitClk, microPitSync, microPitIeSet,
      microPitPer, microPullupsOn, microSlpEnable, microAdcOff, microSmodePd, microSlpWait, microAdcOn] <;>
    (repeat' split) <;> simp

@[simp] theorem runMicro_arg (m : MicroOp) (s : State) : (runMicro m s).arg = s.arg := (runMicro_keeps m s).1
@[simp] theorem runMicro_op (m : MicroOp) (s : State) : (runMicro m s).op = s.op := (runMicro_keeps m s).2.1
@[simp] theorem runMicro_result (m : MicroOp) (s : State) : (runMicro m s).result = s.result :=
  (runMicro_keeps m s).2.2.1
@[simp] theorem runMicro_err (m : MicroOp) (s : State) : (runMicro m s).err = s.err := (runMicro_keeps m s).2.2.2.1
@[simp] theorem runMicro_seqState (m : MicroOp) (s : State) : (runMicro m s).seqState = s.seqState :=
  (runMicro_keeps m s).2.2.2.2.1
@[simp] theorem runMicro_curOp (m : MicroOp) (s : State) : (runMicro m s).curOp = s.curOp :=
  (runMicro_keeps m s).2.2.2.2.2.1
@[simp] theorem runMicro_curArg (m : MicroOp) (s : State) : (runMicro m s).curArg = s.curArg :=
  (runMicro_keeps m s).2.2.2.2.2.2.1
@[simp] theorem runMicro_pitPend (m : MicroOp) (s : State) : (runMicro m s).pitPend = s.pitPend :=
  (runMicro_keeps m s).2.2.2.2.2.2.2.1
@[simp] theorem runMicro_params (m : MicroOp) (s : State) : (runMicro m s).params = s.params :=
  (runMicro_keeps m s).2.2.2.2.2.2.2.2.1
@[simp] theorem runMicro_script (m : MicroOp) (s : State) : (runMicro m s).script = s.script :=
  (runMicro_keeps m s).2.2.2.2.2.2.2.2.2.1
@[simp] theorem runMicro_hostGot (m : MicroOp) (s : State) : (runMicro m s).hostGot = s.hostGot :=
  (runMicro_keeps m s).2.2.2.2.2.2.2.2.2.2.1
@[simp] theorem runMicro_tickFeed (m : MicroOp) (s : State) : (runMicro m s).tickFeed = s.tickFeed :=
  (runMicro_keeps m s).2.2.2.2.2.2.2.2.2.2.2

/-! ### Each micro-op in one record -/

theorem runMicro_sclH (s : State) : runMicro .sclH s =
    { s with
      sclMode := .driveHigh, trace := s.trace ++ [.scl .h], upc := s.upc + 1 } := rfl

theorem runMicro_sclL (s : State) : runMicro .sclL s =
    { s with
      sclMode := .driveLow, trace := s.trace ++ [.scl .l], upc := s.upc + 1 } := rfl

theorem runMicro_sdaLo (s : State) : runMicro .sdaLo s =
    { s with
      sdaMode := .driveLow, trace := s.trace ++ [.sda .lo], upc := s.upc + 1 } := rfl

theorem runMicro_sdaHi (s : State) : runMicro .sdaHi s =
    { s with
      sdaMode := .driveHigh, trace := s.trace ++ [.sda .hi], upc := s.upc + 1 } := rfl

theorem runMicro_sdaRel (s : State) : runMicro .sdaRel s =
    { s with
      sdaMode := .released, trace := s.trace ++ [.sda .rel], upc := s.upc + 1 } := rfl

theorem runMicro_dly (s : State) : runMicro .dly s =
    { s with
      trace := s.trace ++ [.dly], upc := s.upc + 1 } := rfl

theorem runMicro_smpBit (s : State) : runMicro .smpBit s =
    { s with
      rdacc := shiftIn s.rdacc s.sdaNow, sdaFeed := s.sdaFeed.next, trace := s.trace ++ [.smp s.sdaNow],
      upc := s.upc + 1 } := rfl

theorem runMicro_smpAck (s : State) : runMicro .smpAck s =
    { s with
      ackv := s.sdaNow, sdaFeed := s.sdaFeed.next, trace := s.trace ++ [.smp s.sdaNow], upc := s.upc + 1 } := rfl

theorem runMicro_irqOff (s : State) : runMicro .irqOff s =
    { s with
      ieSaved := s.ieSavedByOff, ie := false, trace := s.trace ++ [.irq false], upc := s.upc + 1 } := rfl

theorem runMicro_irqOn (s : State) : runMicro .irqOn s =
    { s with
      ie := s.ieByOn, trace := s.trace ++ [.irq s.ieByOn], upc := s.upc + 1 } := rfl

theorem runMicro_msStart (s : State) : runMicro .msStart s =
    { s with
      tsBlock := s.msNow, msFeed := s.msFeed.next, trace := s.trace ++ [.ms s.msNow], upc := s.upc + 1 } := rfl

theorem runMicro_pitClk (s : State) : runMicro .pitClk s =
    { s with
      pitClksel := .lowfreqInternal, trace := s.trace ++ [.pitClk], upc := s.upc + 1 } := rfl

theorem runMicro_pitIeSet (s : State) : runMicro .pitIeSet s =
    { s with
      pitIe := true, trace := s.trace ++ [.pitIe], upc := s.upc + 1 } := rfl

theorem runMicro_pullupsOn (s : State) : runMicro .pullupsOn s =
    { s with
      pullups := true, trace := s.trace ++ [.pullups], upc := s.upc + 1 } := rfl

theorem runMicro_slpEnable (s : State) : runMicro .slpEnable s =
    { s with
      slpEn := true, trace := s.trace ++ [.slpEn], upc := s.upc + 1 } := rfl

theorem runMicro_adcOff (s : State) : runMicro .adcOff s =
    { s with
      adcEn := false, trace := s.trace ++ [.adc false], upc := s.upc + 1 } := rfl

theorem runMicro_smodePd (s : State) : runMicro .smodePd s =
    { s with
      slpMode := .powerDown, trace := s.trace ++ [.smodePd], upc := s.upc + 1 } := rfl

theorem runMicro_adcOn (s : State) : runMicro .adcOn s =
    { s with
      adcEn := true, trace := s.trace ++ [.adc true], upc := s.upc + 1 } := rfl

theorem runMicro_pitPer (k : Fin Config.nIntervals) (s : State) : runMicro (.pitPer k) s =
    { s with
      pitPeriod := some k, trace := s.trace ++ [.pitPer k], upc := s.upc + 1 } := rfl

theorem runMicro_msWait (d : Ms) (s : State) : runMicro (.msWait d) s =
    { s with
      msFeed := s.msFeed.next, trace := s.trace ++ [.ms s.msNow],
      upc := if waitEnds s.msNow s.tsBlock d then s.upc + 1 else s.upc } := by
  simp only [runMicro, microMsWait]; split <;> rfl

theorem runMicro_msPoll (d : Ms) (s : State) : runMicro (.msPoll d) s =
    { s with
      msFeed := s.msFeed.next, trace := s.trace ++ [.ms s.msNow], upc := s.upc + 1,
      tsPoll := if pollFires s.msNow s.tsPoll d then s.msNow else s.tsPoll,
      pollr := pollFires s.msNow s.tsPoll d } := by
  simp only [runMicro, microMsPoll]
  split
  · rename_i h; rw [h]; rfl
  · rename_i h; rw [Bool.eq_false_iff.mpr h]; rfl

theorem runMicro_pitSync (s : State) : runMicro .pitSync s =
    { s with
      syncFeed := s.syncFeed.next, trace := s.trace ++ [.pitSync s.syncNow],
      upc := if s.syncNow then s.upc else s.upc + 1 } := by
  simp only [runMicro, microPitSync]; split <;> rfl

theorem runMicro_slpWait_awake {s : State} (h : s.asleep = false) : runMicro .slpWait s =
    { s with
      asleep := true, trace := s.trace ++ [.sleep] } := by
  simp only [runMicro, microSlpWait, h]; rfl

theorem runMicro_slpWait_asleep {s : State} (h : s.asleep = true) : runMicro .slpWait s = s := by
  simp only [runMicro, microSlpWait, h]; rfl

/-! ### Issue, completion and command error in one record -/

theorem State.issue_eq (s : State) (o : Byte) (a : Word) : s.issue o a =
    { s with
      err := 0#2, curOp := o, curArg := a, rdacc := 0#8, ackv := false, pollr := false, upc := 0, seqState := .busy,
      trace := s.trace ++ [.cmd o a] } := rfl

theorem State.complete_eq (s : State) (r : Word) : s.complete r =
    { s with
      result := r, seqState := .idle, trace := s.trace ++ [.done r] } := rfl

theorem State.takeIsr_eq (s : State) : s.takeIsr =
    { s with
      pitPend := false, asleep := false, upc := (if s.asleep then s.upc + 1 else s.upc),
      trace := s.trace ++ (if s.asleep then [.isr, .wake] else [.isr]) } := by
  ext1 <;> simp [takeIsr_upc, takeIsr_trace]

/-- Everything the sequencer's step through a micro-program can do. -/
theorem seqRun_cases {μ : List MicroOp} {res : State → Word} {s t : State} (h : seqRun μ res s = .next t) :
    (∃ m, μ[s.upc]? = some m ∧ t = runMicro m s) ∨ (s.upc = μ.length ∧ t = s.complete (res s)) := by
  unfold seqRun at h
  split at h
  · exact .inl ⟨_, ‹_›, by cases h; rfl⟩
  · split at h
    · exact .inr ⟨‹_›, by cases h; rfl⟩
    · cases h

/-- A step inside the micro-program. -/
theorem seqRun_micro {μ : List MicroOp} {res : State → Word} {s : State} {m : MicroOp} (h : μ[s.upc]? = some m) :
    seqRun μ res s = .next (runMicro m s) := by
  simp [seqRun, h]

/-- The step at its end. -/
theorem seqRun_done {μ : List MicroOp} {res : State → Word} {s : State} (h : s.upc = μ.length) :
    seqRun μ res s = .next (s.complete (res s)) := by
  simp [seqRun, h]

/-- `exec` in one form for every command. -/
theorem exec_eq (i : Instr) (s : State) :
    exec i s = match i.program s.params with
      | some μ => commandStep i μ (fun s => i.resultOf s) s
      | none => sleepRefused s := by
  cases i <;> try rfl
  simp only [exec, execSleep, Instr.program]
  cases cycles s.params _ <;> rfl

/-- A command's step while the sequencer is idle. -/
theorem exec_idle {i : Instr} {μ : List MicroOp} {s : State} (hs : s.seqState = .idle)
    (hp : i.program s.params = some μ) : exec i s = .next (s.issue i.opcode i.argument) := by
  simp [exec_eq, hp, commandStep, hs]

/-- A command's step while the sequencer is busy. -/
theorem exec_busy {i : Instr} {μ : List MicroOp} {s : State} (hs : s.seqState = .busy)
    (hp : i.program s.params = some μ) : exec i s = seqRun μ (fun s => i.resultOf s) s := by
  simp [exec_eq, hp, commandStep, hs]

/-- Everything a command's step can do, if it answers a next state: its accepted issue, a micro-op, its completion, or
the error of a count of 0 that is refused. -/
theorem exec_cases {i : Instr} {s t : State} (h : exec i s = .next t) :
    (∃ μ, s.seqState = .idle ∧ i.program s.params = some μ ∧ t = s.issue i.opcode i.argument) ∨
    (∃ μ m, s.seqState = .busy ∧ i.program s.params = some μ ∧ μ[s.upc]? = some m ∧ t = runMicro m s) ∨
    (∃ μ, s.seqState = .busy ∧ i.program s.params = some μ ∧ s.upc = μ.length ∧ t = s.complete (i.resultOf s)) ∨
    (s.seqState = .idle ∧ i.program s.params = none ∧ t = s.raiseCmdError .zeroCycles) := by
  rw [exec_eq] at h
  split at h
  · rename_i μ hp
    cases hs : s.seqState
    · simp only [commandStep, hs] at h
      exact .inl ⟨μ, rfl, hp, by cases h; rfl⟩
    · simp only [commandStep, hs] at h
      rcases seqRun_cases h with ⟨m, hm, rfl⟩ | ⟨hl, rfl⟩
      · exact .inr (.inl ⟨μ, m, rfl, hp, hm, rfl⟩)
      · exact .inr (.inr (.inl ⟨μ, rfl, hp, hl, rfl⟩))
  · rename_i hp
    cases hs : s.seqState
    · simp only [sleepRefused, hs] at h
      exact .inr (.inr (.inr ⟨rfl, hp, by cases h; rfl⟩))
    · simp [sleepRefused, hs] at h

end Sys2Proof.Machine
end

