-- ==== Sys2Proof/Laws/PerInstr.lean ====
section
/-! SUPPORT. The family TableRow: each command's word is a word of its row of spec/opcode_table.json (R62). -/

namespace Sys2Proof.Laws.TableRow

/-- The row's `match` and `mask`, copied from spec/opcode_table.json. -/
def row : Instr → BitVec 40 × BitVec 40
  | .delayBlocking _ => (0x1000000000#40, 0xFF00000000#40)
  | .delayPoll _ => (0x1100000000#40, 0xFF00000000#40)
  | .i2cInit => (0x2000000000#40, 0xFFFFFFFFFF#40)
  | .i2cStart => (0x2100000000#40, 0xFFFFFFFFFF#40)
  | .i2cStop => (0x2200000000#40, 0xFFFFFFFFFF#40)
  | .i2cWriteByte _ => (0x2300000000#40, 0xFFFFFFFF00#40)
  | .i2cReadByte _ => (0x2400000000#40, 0xFFFFFFFFFE#40)
  | .sleepConfig _ => (0x3000000000#40, 0xFF00000000#40)
  | .sleep _ => (0x3100000000#40, 0xFF00000000#40)

/-- The encoded word, under the row's mask, is the row's match. -/
def Statement (i : Instr) : Prop := encode i &&& (row i).2 = (row i).1

/-- A word whose operand fills `ARG` lies in its row whatever the operand. -/
theorem opcode_only (op : Byte) (arg : Word) : (op ++ arg) &&& 0xFF00000000#40 = op ++ 0#32 := by
  ext k hk
  rw [BitVec.getElem_and, BitVec.getElem_append, BitVec.getElem_append]
  split
  · rename_i h
    have : (0xFF00000000#40)[k] = false := by
      revert h; revert hk; revert k; decide
    simp [this]
  · rename_i h
    have : (0xFF00000000#40)[k] = true := by
      revert h; revert hk; revert k; decide
    simp [this]

theorem delayBlocking (ms : Word) : Statement (.delayBlocking ms) :=
  (opcode_only 0x10#8 ms).trans (show 0x10#8 ++ 0#32 = 0x1000000000#40 by decide)
theorem delayPoll (ms : Word) : Statement (.delayPoll ms) :=
  (opcode_only 0x11#8 ms).trans (show 0x11#8 ++ 0#32 = 0x1100000000#40 by decide)
theorem i2cInit : Statement .i2cInit := rfl
theorem i2cStart : Statement .i2cStart := rfl
theorem i2cStop : Statement .i2cStop := rfl
theorem i2cWriteByte (data : Byte) : Statement (.i2cWriteByte data) := by
  have h : ∀ d : Fin 256, encode (.i2cWriteByte ⟨d⟩) &&& 0xFFFFFFFF00#40 = 0x2300000000#40 := by
    decide +kernel
  exact h data.toFin
theorem i2cReadByte (ack : Bool) : Statement (.i2cReadByte ack) := by cases ack <;> rfl
theorem sleepConfig (interval : Word) : Statement (.sleepConfig interval) :=
  (opcode_only 0x30#8 interval).trans (show 0x30#8 ++ 0#32 = 0x3000000000#40 by decide)
theorem sleep (cycles : Word) : Statement (.sleep cycles) :=
  (opcode_only 0x31#8 cycles).trans (show 0x31#8 ++ 0#32 = 0x3100000000#40 by decide)

end Sys2Proof.Laws.TableRow
end

