-- ==== Sys2Proof/Laws/Step.lean ====
section
/-! SUPPORT. Everything one step of the machine can do. -/

namespace Sys2Proof.Machine

/-- Everything the host's step can do, if it answers a next state. -/
theorem hostStep_cases {s t : State} (h : hostStep s = .next t) :
    (s.script = [] ∧ t = s) ∨
    (∃ off rest, s.script = .read 1 off :: rest ∧ t = { s with script := rest }.memRead off) ∨
    (∃ off v rest, s.script = .write 1 off v :: rest ∧ off ≠ 0x4#4 ∧ t = { s with script := rest }.memWrite off v) ∨
    (∃ v rest, s.script = .write 1 0x4#4 v :: rest ∧
      ((∃ i, decode s.params.sleepZero v s.arg = .ok i ∧ exec i ({ s with script := rest }.writeOp v) = .next t) ∨
       (∃ e, decode s.params.sleepZero v s.arg = .error e ∧
         t = ({ s with script := rest }.writeOp v).raiseCmdError e))) ∨
    (∃ v rest, s.script = .setIe v :: rest ∧ t = { s with script := rest }.setIe v) := by
  unfold hostStep at h
  split at h
  · exact .inl ⟨‹_›, by cases h; rfl⟩
  · rename_i a rest hs
    unfold hostAct at h
    split at h
    · split at h
      · subst_vars; exact .inr (.inl ⟨_, rest, hs, by cases h; rfl⟩)
      · cases h
    · split at h
      · split at h
        · subst_vars
          refine .inr (.inr (.inr (.inl ⟨_, rest, hs, ?_⟩)))
          unfold hostIssue at h
          split at h
          · exact .inl ⟨_, ‹_›, h⟩
          · exact .inr ⟨_, ‹_›, by cases h; rfl⟩
        · subst_vars; exact .inr (.inr (.inl ⟨_, _, rest, hs, ‹_›, by cases h; rfl⟩))
      · cases h
    · exact .inr (.inr (.inr (.inr ⟨_, rest, hs, by cases h; rfl⟩)))

/-- The sequencer's step is that of the current command. -/
theorem seqStep_current {s : State} {i : Instr} (h : s.current = some i) : seqStep s = exec i s := by
  unfold State.current at h
  unfold seqStep
  split at h
  · cases h; simp_all
  · cases h

/-- Everything a step can do, if it answers a next state: a tick, the ISR, the current command's step, or the
host's. -/
theorem step_cases {s t : State} (h : step s = .next t) :
    (s.ticksNow = true ∧ t = s.tickChosen.tick) ∨
    (s.isrTurn ∧ t = s.tickChosen.takeIsr) ∨
    (s.seqTurn ∧ ∃ i, s.current = some i ∧ exec i s.tickChosen = .next t) ∨
    (s.hostTurn ∧ hostStep s.tickChosen = .next t) := by
  unfold step blockStep at h
  split at h
  · exact .inl ⟨‹_›, by cases h; rfl⟩
  · rename_i ht
    have ht : s.ticksNow = false := by simpa using ht
    have he : s.tickChosen.isrEnabled = s.isrEnabled := by simp [State.isrEnabled]
    unfold agentStep at h
    split at h
    · exact .inr (.inl ⟨⟨ht, by simp_all⟩, by cases h; rfl⟩)
    · have hi : s.isrEnabled = false := by simp_all
      rw [State.tickChosen_seqState] at h
      split at h
      · rename_i hb
        refine .inr (.inr (.inl ⟨⟨ht, hi, hb⟩, ?_⟩))
        unfold seqStep at h
        simp only [State.tickChosen_params, State.tickChosen_curOp, State.tickChosen_curArg] at h
        split at h
        · exact ⟨_, by simp [State.current, *], h⟩
        · cases h
      · exact .inr (.inr (.inr ⟨⟨ht, hi, ‹_›⟩, h⟩))

/-- A step at which the PIT ticks. -/
theorem step_tick {s : State} (h : s.ticksNow = true) : step s = .next s.tickChosen.tick := by
  simp [step, blockStep, h]

/-- A step of the ISR. -/
theorem step_isr {s : State} (h : s.isrTurn) : step s = .next s.tickChosen.takeIsr := by
  have he : s.tickChosen.isrEnabled = true := by simpa [State.isrEnabled] using h.2
  simp [step, blockStep, h.1, agentStep, he]

/-- A step of the sequencer. -/
theorem step_seq {s : State} (h : s.seqTurn) : step s = seqStep s.tickChosen := by
  have he : s.tickChosen.isrEnabled = false := by have := h.2.1; simpa [State.isrEnabled] using this
  simp [step, blockStep, h.1, agentStep, he, h.2.2]

/-- A step of the host. -/
theorem step_host {s : State} (h : s.hostTurn) : step s = hostStep s.tickChosen := by
  have he : s.tickChosen.isrEnabled = false := by have := h.2.1; simpa [State.isrEnabled] using this
  simp [step, blockStep, h.1, agentStep, he, h.2.2]

end Sys2Proof.Machine
end

