-- ==== Sys2Proof/Laws/Runs.lean ====
section
/-! SUPPORT. Runs of several steps: one step at a time, feeds, the tick's choice, and a micro-program without waits from its start to its end. -/

namespace Sys2Proof.Machine

theorem execRun_succ {i : Instr} {s t : State} (k : Nat) (h : exec i s = .next t) :
    execRun i (k + 1) s = execRun i k t := by
  simp [execRun, h]

theorem stepRun_succ {s t : State} (k : Nat) (h : step s = .next t) : stepRun (k + 1) s = stepRun k t := by
  simp [stepRun, h]

theorem Feed.next_after {α : Type} (f : Feed α) (k : Nat) : (f.after k).next = f.after (k + 1) := by
  induction k generalizing f with
  | zero => rfl
  | succ k ih => exact ih f.next

theorem Feed.after_after {α : Type} (f : Feed α) (a b : Nat) : (f.after a).after b = f.after (a + b) := by
  induction a generalizing f with
  | zero => simp [Feed.after]
  | succ a ih => rw [Nat.add_right_comm]; exact ih f.next

/-- While the timer runs, the next choice decides. -/
theorem ticksNow_of_running {s : State} (h : s.pitRunning = true) : s.ticksNow = s.tickAt 0 := by
  simp [State.ticksNow, h, State.tickAt, Feed.after]

theorem tickChosen_of_running {s : State} (h : s.pitRunning = true) :
    s.tickChosen = { s with tickFeed := s.tickFeed.next } := by
  simp [State.tickChosen, h]

theorem tickChosen_of_stopped {s : State} (h : s.pitRunning = false) : s.tickChosen = s := by
  simp [State.tickChosen, h]

/-- One enable or the pending condition missing keeps the ISR out. -/
theorem isrEnabled_eq_false {s : State} (h : s.ie = false ∨ s.pitIe = false ∨ s.pitPend = false) :
    s.isrEnabled = false := by
  rcases h with h | h | h <;> simp [State.isrEnabled, h]

/-- A step of a command inside its micro-program. -/
theorem exec_micro {i : Instr} {μ : List MicroOp} {s : State} {m : MicroOp} (hb : s.seqState = .busy)
    (hp : i.program s.params = some μ) (hm : μ[s.upc]? = some m) : exec i s = .next (runMicro m s) := by
  rw [exec_busy hb hp, seqRun_micro hm]

/-- A step of a command at the end of its micro-program. -/
theorem exec_done {i : Instr} {μ : List MicroOp} {s : State} (hb : s.seqState = .busy)
    (hp : i.program s.params = some μ) (hu : s.upc = μ.length) : exec i s = .next (s.complete (i.resultOf s)) := by
  rw [exec_busy hb hp, seqRun_done hu]

/-- What no step of any command changes. -/
theorem exec_keeps {i : Instr} {s t : State} (h : exec i s = .next t) :
    t.arg = s.arg ∧ t.op = s.op ∧ t.pitPend = s.pitPend ∧ t.params = s.params ∧ t.script = s.script ∧
      t.hostGot = s.hostGot ∧ t.tickFeed = s.tickFeed := by
  rcases exec_cases h with ⟨_, _, _, rfl⟩ | ⟨_, _, _, _, _, rfl⟩ | ⟨_, _, _, _, rfl⟩ | ⟨_, _, rfl⟩ <;> simp

/-- The micro-ops that always complete at their first step. -/
def straight : MicroOp → Bool
  | .msWait _ => false
  | .pitSync => false
  | .slpWait => false
  | _ => true

theorem runMicro_straight_upc {m : MicroOp} {s : State} (h : straight m = true) :
    (runMicro m s).upc = s.upc + 1 := by
  cases m <;> first | rfl | (cases h; done) | skip
  rw [runMicro_msPoll]

/-- The state after a list of micro-ops. -/
def micros (l : List MicroOp) (s : State) : State := l.foldl (fun s m => runMicro m s) s

theorem micros_append (l l' : List MicroOp) (s : State) : micros (l ++ l') s = micros l' (micros l s) := by
  simp [micros]

/-- The rest l of a micro-program, run to the program's end. -/
theorem execRun_micros {i : Instr} {μ : List MicroOp} (l : List MicroOp) (k : Nat) {s : State}
    (hb : s.seqState = .busy) (hp : i.program s.params = some μ) (hd : μ.drop s.upc = l)
    (hs : ∀ m ∈ l, straight m = true) (hu : s.upc ≤ μ.length) :
    execRun i (l.length + k) s = execRun i k (micros l s) ∧ (micros l s).seqState = .busy ∧
      (micros l s).params = s.params ∧ (micros l s).upc = μ.length := by
  induction l generalizing s with
  | nil =>
    have := List.drop_eq_nil_iff.mp hd
    refine ⟨by simp [micros], hb, rfl, ?_⟩
    show s.upc = μ.length
    omega
  | cons m l ih =>
    have hlt : s.upc < μ.length := by
      by_contra hc
      rw [List.drop_eq_nil_of_le (by omega)] at hd
      cases hd
    have hm : μ[s.upc]? = some m := by rw [← List.head?_drop, hd]; rfl
    have hup := runMicro_straight_upc (s := s) (hs m (by simp))
    have := ih (s := runMicro m s) (by simpa using hb) (by simpa using hp)
      (by rw [hup, ← List.drop_drop, hd]; rfl) (fun x hx => hs x (by simp [hx])) (by omega)
    rw [show (m :: l).length + k = (l.length + k) + 1 by simp; omega, execRun_succ _ (exec_micro hb hp hm)]
    simpa [micros] using this

/-- A command whose micro-program has no wait: issue, every micro-op, completion. -/
theorem execRun_whole {i : Instr} {μ : List MicroOp} {s : State} {n : Nat} (hi : s.seqState = .idle)
    (hp : i.program s.params = some μ) (hs : ∀ m ∈ μ, straight m = true) (hn : n = μ.length + 2) :
    execRun i n s = .next
      ((micros μ (s.issue i.opcode i.argument)).complete
        (i.resultOf (micros μ (s.issue i.opcode i.argument)))) := by
  subst hn
  rw [execRun_succ _ (exec_idle hi hp)]
  obtain ⟨h1, h2, h3, h4⟩ := execRun_micros (i := i) μ 1 (s := s.issue i.opcode i.argument) (by simp)
    (by simpa using hp) (by simp) hs (by simp)
  rw [h1, execRun_succ 0 (exec_done h2 (by rw [h3]; simpa using hp) h4)]
  rfl

end Sys2Proof.Machine
end

