-- ==== Sys2Proof/Tests/Slice0.lean ====
section
/-! SUPPORT. Tests of one step each, expected values from 95_test_vectors.md (V-..., X...), and a witness for the hypotheses of each statement. -/

namespace Sys2Proof.Tests

open Sys2Proof.Machine

/-- The reset state with the open parameters at values of this file's choice. -/
def base : State :=
  { State.reset with
    ie := true, adcEn := true, slpMode := .other,
    params := { irqResume := .enable, sleepZero := .one, underflowWidth := 4 } }

/-- The sequencer at a micro-op of a command. -/
def busyAt (i : Instr) (u : Nat) : State :=
  { base with seqState := .busy, curOp := i.opcode, curArg := i.argument, upc := u }

/-- `base` after `SLEEP_CONFIG 8`, with the given ticks to come. -/
def timed (ticks : List Bool) : State :=
  { base with
    pitClksel := .lowfreqInternal, pitIe := true, pitPeriod := some 8, pullups := true, slpEn := true,
    tickFeed := { planned := ticks, ix := 0 } }

/-- `SLEEP 3` asleep in its first cycle, with the given ticks to come. -/
def sleeping (ticks : List Bool) : State :=
  { timed ticks with
    seqState := .busy, curOp := 0x31#8, curArg := 3#32, upc := 2, asleep := true, adcEn := false,
    slpMode := .powerDown }

/-- `I2C_WRITE_BYTE 0xFF` inside its critical section, the timer running and a tick pending. -/
def masked (u : Nat) (ticks : List Bool) : State :=
  { timed ticks with
    seqState := .busy, curOp := 0x23#8, curArg := 0xFF#32, upc := u, ie := false, pitPend := true }

/-- What a step that answers a next state leaves in one field. -/
def got {α : Type} (o : Host.Outcome State Fault Refusal) (f : State → α) : Option α :=
  match o with
  | .next t => some (f t)
  | .fault _ => none
  | .refused _ => none

/-! ### Well-formedness: one check, one ill-formed term -/

theorem test_wf_refuses_zero_count : (Instr.sleep 0#32).wf .refuse = false := by decide
theorem test_wf_accepts_zero_count_otherwise :
    (Instr.sleep 0#32).wf .one = true ∧ (Instr.sleep 0#32).wf .underflow = true ∧
      (Instr.sleep 1#32).wf .refuse = true := by decide

/-! ### Decoding: a word of each row of R62, bit by bit -/

theorem test_decode_delay_blocking :
    decodeTableWord 40 0b00010000_00000000_00000000_00000001_10000011 = some (.delayBlocking 387#32) := by decide
theorem test_decode_delay_poll :
    decodeTableWord 40 0b00010001_10000000_00000000_00000000_00000010 = some (.delayPoll 0x80000002#32) := by decide
theorem test_decode_i2c_init :
    decodeTableWord 40 0b00100000_00000000_00000000_00000000_00000000 = some .i2cInit := by decide
theorem test_decode_i2c_start :
    decodeTableWord 40 0b00100001_00000000_00000000_00000000_00000000 = some .i2cStart := by decide
theorem test_decode_i2c_stop :
    decodeTableWord 40 0b00100010_00000000_00000000_00000000_00000000 = some .i2cStop := by decide
theorem test_decode_i2c_write_byte :
    decodeTableWord 40 0b00100011_00000000_00000000_00000000_10100001 = some (.i2cWriteByte 0xA1#8) := by decide
theorem test_decode_i2c_read_byte :
    decodeTableWord 40 0b00100100_00000000_00000000_00000000_00000001 = some (.i2cReadByte true) := by decide
theorem test_decode_sleep_config :
    decodeTableWord 40 0b00110000_00000000_00000000_00000000_00001101 = some (.sleepConfig 13#32) := by decide
theorem test_decode_sleep :
    decodeTableWord 40 0b00110001_00000000_00000001_00000000_00000011 = some (.sleep 0x10003#32) := by decide
/-- V-D3, V-D6, V-D11, V-D14 under REFUSE: the code of each refused word. -/
theorem test_decode_errors :
    decode .one 0xFF#8 0xFFFFFFFF#32 = .error .illegalOpcode ∧ decode .one 0x22#8 0x8000#32 = .error .reservedArg ∧
      decode .one 0x24#8 2#32 = .error .reservedArg ∧ decode .refuse 0x31#8 0#32 = .error .zeroCycles := ⟨rfl, rfl, rfl, rfl⟩
/-- R59: the lowest byte of the operand is the first byte written. -/
theorem test_decode_bytes :
    decodeBytes .one [0x78#8, 0x56#8, 0x34#8, 0x12#8, 0x10#8] = some (.ok (.delayBlocking 0x12345678#32)) := rfl

/-! ### The register window -/

/-- V-M1, V-M2, V-M3. -/
theorem test_window_reads :
    ({ base with arg := 0x12345678#32 } : State).windowRead 3#4 = 0x12#8 ∧
      ({ base with arg := 0x12345678#32 } : State).windowRead 0#4 = 0x78#8 ∧
      ({ base with result := 0xB2#32 } : State).windowRead 8#4 = 0xB2#8 ∧
      ({ base with result := 0xFFFFFF00#32 } : State).windowRead 6#4 = 0#8 := by decide
/-- V-M4: a write to STATUS changes nothing. -/
theorem test_write_read_only :
    got (step { base with result := 5#32, script := [.write 1 5#4 0xFF#8] }) (fun t => (t.err, t.result, t.trace)) =
      some (0#2, 5#32, [.wr 5#4 0xFF#8]) := by decide
/-- V-M5: an illegal opcode. -/
theorem test_illegal_opcode :
    got (step { base with script := [.write 1 4#4 0x99#8] }) (fun t => (t.status, t.windowRead 4#4, t.seqState)) =
      some (0x01#8, 0x99#8, .idle) := by decide
/-- V-M6. -/
theorem test_width_two : step { base with script := [.read 2 0#4] } = .refused .accessWidth := rfl
/-- R16: a word placed is issued by the next step. -/
theorem test_placed_word :
    got (step (base.withFetchWord 40 0x23000000A0)) (fun t => (t.seqState, t.curOp, t.curArg)) =
      some (.busy, 0x23#8, 0xA0#32) := by decide

/-! ### One step of each command -/

/-- V-B3: at the wrap, 3 ends a wait of 5 begun at 0xFFFFFFFE; 0xFFFFFFFF does not. -/
theorem test_delay_blocking_wrap :
    got (exec (.delayBlocking 5#32)
      { busyAt (.delayBlocking 5#32) 1 with tsBlock := 0xFFFFFFFE#32, msFeed := { planned := [3#32], ix := 0 } })
      (fun t => t.upc) = some 2 := by decide
theorem test_delay_blocking_waits :
    got (exec (.delayBlocking 5#32)
      { busyAt (.delayBlocking 5#32) 1 with
        tsBlock := 0xFFFFFFFE#32, msFeed := { planned := [0xFFFFFFFF#32], ix := 0 } })
      (fun t => t.upc) = some 1 := by decide
/-- V-L4, X1: strictly greater than the duration. -/
theorem test_delay_poll_not_yet :
    got (exec (.delayPoll 32#32)
      { busyAt (.delayPoll 32#32) 0 with tsPoll := 0xFFFFFFF0#32, msFeed := { planned := [0x10#32], ix := 0 } })
      (fun t => (t.pollr, t.tsPoll)) = some (false, 0xFFFFFFF0#32) := by decide
theorem test_delay_poll_fires :
    got (exec (.delayPoll 32#32)
      { busyAt (.delayPoll 32#32) 0 with tsPoll := 0xFFFFFFF0#32, msFeed := { planned := [0x11#32], ix := 0 } })
      (fun t => (t.pollr, t.tsPoll)) = some (true, 0x11#32) := by decide
/-- V-I1. -/
theorem test_i2c_init_clock_first :
    got (exec .i2cInit (busyAt .i2cInit 0)) (fun t => (t.sclMode, t.sdaMode, t.trace)) =
      some (.driveHigh, .released, [.scl .h]) := by decide
/-- V-S1. -/
theorem test_i2c_start_data_falls :
    got (exec .i2cStart (busyAt .i2cStart 1)) (fun t => (t.sdaMode, t.trace)) = some (.driveLow, [.sda .lo]) := by decide
/-- V-P1. -/
theorem test_i2c_stop_data_driven_high :
    got (exec .i2cStop (busyAt .i2cStop 3)) (fun t => (t.sdaMode, t.trace)) = some (.driveHigh, [.sda .hi]) := by decide
/-- V-W3: bit 7 of 0xA0 goes first. -/
theorem test_write_byte_msb_first :
    got (exec (.i2cWriteByte 0xA0#8) (busyAt (.i2cWriteByte 0xA0#8) 1)) (fun t => t.trace) = some [.sda .hi] ∧
      got (exec (.i2cWriteByte 0xA0#8) (busyAt (.i2cWriteByte 0xA0#8) 6)) (fun t => t.trace) = some [.sda .lo] := by decide
/-- X4: an acknowledgment sample of 0 gives RESULT 1. -/
theorem test_write_byte_acknowledged :
    got (exec (.i2cWriteByte 0xFF#8) { busyAt (.i2cWriteByte 0xFF#8) 47 with ackv := false })
      (fun t => (t.result, t.seqState)) = some (1#32, .idle) := by decide
/-- V-R1: the eighth sample, 0, after 1,0,1,1,0,0,1. -/
theorem test_read_byte_last_sample :
    got (exec (.i2cReadByte true)
      { busyAt (.i2cReadByte true) 38 with rdacc := 0b01011001#8, sdaFeed := { planned := [false], ix := 0 } })
      (fun t => (t.rdacc, t.trace)) = some (0xB2#8, [.smp false]) := by decide
/-- V-R1, V-R2: after the samples, an acknowledgment drives data low; none leaves it. -/
theorem test_read_byte_acknowledge :
    got (exec (.i2cReadByte true) (busyAt (.i2cReadByte true) 41)) (fun t => t.trace) = some [.sda .lo] ∧
      got (exec (.i2cReadByte false) (busyAt (.i2cReadByte false) 41)) (fun t => t.trace) = some [.dly] := by decide
/-- V-C3: interval 14 is index 8. -/
theorem test_sleep_config_clamp :
    got (exec (.sleepConfig 14#32) (busyAt (.sleepConfig 14#32) 3)) (fun t => t.pitPeriod) = some (some 8) := by decide
/-- V-C2: not synchronized, poll again. -/
theorem test_sleep_config_polls :
    got (exec (.sleepConfig 13#32) { busyAt (.sleepConfig 13#32) 1 with syncFeed := { planned := [true], ix := 0 } })
      (fun t => (t.upc, t.trace)) = some (1, [.pitSync true]) := by decide
/-- V-Z2: a count of 0 is one cycle, so `ADC_ON` follows the first `SLP_WAIT`. -/
theorem test_sleep_zero_is_one :
    got (exec (.sleep 0#32) (busyAt (.sleep 0#32) 2)) (fun t => (t.asleep, t.trace)) = some (true, [.sleep]) ∧
      got (exec (.sleep 0#32) (busyAt (.sleep 0#32) 3)) (fun t => t.trace) = some [.adc true] := by decide
/-- V-Z3. -/
theorem test_sleep_zero_refused :
    got (step { base with
        params := { irqResume := .enable, sleepZero := .refuse, underflowWidth := 4 }, script := [.write 1 4#4 0x31#8] })
      (fun t => (t.status, t.seqState, t.adcEn, t.trace)) =
      some (0x03#8, .idle, true, [.wr 4#4 0x31#8, .err 3#2]) := by decide

/-! ### The tick and the interrupt -/

/-- V-Z1: the tick, then the ISR that wakes. -/
theorem test_tick : got (step (sleeping [true, false])) (fun t => (t.pitPend, t.asleep, t.upc)) = some (true, true, 2) := by
  decide
theorem test_isr_wakes :
    got (step { sleeping [false] with pitPend := true }) (fun t => (t.pitPend, t.asleep, t.upc, t.trace)) =
      some (false, false, 3, [.isr, .wake]) := by decide
/-- V-Q1: inside the critical section the operation goes on. -/
theorem test_masked : got (step (masked 1 [false])) (fun t => (t.pitPend, t.trace)) = some (true, [.sda .hi]) := by decide
/-- V-Q1: after `IRQ_ON` the ISR goes before the completion. -/
theorem test_isr_before_completion :
    got (step { masked 47 [false] with ie := true }) (fun t => (t.pitPend, t.seqState, t.trace)) =
      some (false, .busy, [.isr]) := by decide

/-! ### Witnesses: the hypotheses of each statement, met together -/

theorem witness_DecodeOfEncode : (Instr.sleep 0xFFFFFFFF#32).wf .refuse = true := by decide
theorem witness_EncodeOfDecode : decode .one 0x24#8 1#32 = .ok (.i2cReadByte true) := rfl
theorem witness_OperandForms :
    1 ≤ (1#32 : Word).toNat ∧ base.params.sleepZero = .one ∧
      ({ base.params with sleepZero := .refuse } : Params).sleepZero = .refuse ∧
      ({ base.params with sleepZero := .underflow } : Params).sleepZero = .underflow := ⟨by decide, rfl, rfl, rfl⟩

/-- V-Z3: the host's write that issues `SLEEP 0` under REFUSE. -/
theorem witness_OperandForms_refused_issue :
    ∃ (s : State) (rest : List HostAction), s.hostTurn ∧ s.script = .write 1 0x4#4 0x31#8 :: rest ∧ s.arg = 0#32 ∧
      s.params.sleepZero = .refuse :=
  ⟨{ base with params := { base.params with sleepZero := .refuse }, script := [.write 1 4#4 0x31#8] }, [],
    ⟨rfl, rfl, rfl⟩, rfl, rfl, rfl⟩

/-- Idle, awake and with no timer, the invariant holds. -/
theorem base_inv (l : List HostAction) : ({ base with script := l } : State).Inv := by
  refine ⟨?_, ?_, ?_, ⟨?_, ?_, ?_⟩, ?_, ?_⟩ <;>
    simp [base, State.reset, State.seqOk, State.asleepOk, State.criticalOk, State.slpEnOk, State.sleepOk,
      State.pitRunning]

theorem sleeping_current (ticks : List Bool) : (sleeping ticks).current = some (.sleep 3#32) := rfl

/-- Asleep in a `SLEEP`, the invariant holds. -/
theorem sleeping_inv (ticks : List Bool) : (sleeping ticks).Inv := by
  refine ⟨fun _ => ⟨.sleep 3#32, sleepProgram 3, rfl, rfl, (by decide : 2 ≤ 6)⟩,
    fun _ => ⟨rfl, 3#32, 3, rfl, rfl, Nat.le_refl 2, (by decide : 2 < 5)⟩, ?_, ⟨fun _ => ⟨rfl, rfl⟩, fun _ => rfl, ?_⟩, fun _ => .inl rfl, fun _ _ _ _ _ => ⟨fun _ _ => rfl, fun _ => rfl⟩⟩
  · intro _ i _ hc hm
    rw [sleeping_current] at hc
    cases hc
    cases hm
  · intro _ x hc
    rw [sleeping_current] at hc
    cases hc

theorem masked_current (u : Nat) (ticks : List Bool) : (masked u ticks).current = some (.i2cWriteByte 0xFF#8) := by
  have h : decode .one 0x23#8 0xFF#32 = .ok (.i2cWriteByte 0xFF#8) := rfl
  simp [State.current, masked, timed, base, h]

/-- Inside a byte operation, the invariant holds. -/
theorem masked_inv (u : Nat) (hu : u ≤ 47) (ticks : List Bool) : (masked u ticks).Inv := by
  refine ⟨fun _ => ⟨_, _, masked_current u ticks, rfl, hu⟩, (fun h => nomatch h), fun _ _ _ _ _ _ _ _ => rfl,
    ⟨fun _ => ⟨rfl, rfl⟩, fun _ => rfl, ?_⟩, fun _ => .inl rfl, ?_⟩
  · intro _ x hc
    rw [masked_current] at hc
    cases hc
  · intro _ n k hc
    rw [masked_current] at hc
    cases hc

/-- `SLEEP_CONFIG 14` at its `PIT_PER`. -/
def configuring : State := { busyAt (.sleepConfig 14#32) 3 with pitClksel := .lowfreqInternal, pitIe := true }

theorem configuring_current : configuring.current = some (.sleepConfig 14#32) := rfl

theorem configuring_inv : configuring.Inv := by
  refine ⟨fun _ => ⟨_, _, configuring_current, rfl, by decide⟩, (fun h => nomatch h), ?_,
    ⟨fun _ => ⟨rfl, rfl⟩, (fun h => nomatch h), fun _ _ _ => ⟨fun _ => rfl, fun _ => rfl⟩⟩, (fun h => nomatch h), ?_⟩
  · intro _ i _ hc hm
    rw [configuring_current] at hc
    cases hc
    cases hm
  · intro _ n k hc
    rw [configuring_current] at hc
    cases hc

theorem witness_PitStartsOnlyBySleepConfig :
    (∃ s t : State, s.Inv ∧ step s = .next t ∧ s.pitRunning = false ∧ t.pitRunning = true) ∧
      ∃ s t : State, step s = .next t ∧ s.pitRunning = true :=
  ⟨⟨configuring, _, configuring_inv, rfl, rfl, rfl⟩, ⟨timed [true], _, rfl, rfl⟩⟩

/-- The host's turn, with the given script. -/
theorem witness_hostTurn (l : List HostAction) : ({ base with script := l } : State).hostTurn := ⟨rfl, rfl, rfl⟩

theorem witness_HostReadReturnsWindowByte :
    ∃ (s : State) (off : Offset) (rest : List HostAction), s.hostTurn ∧ s.script = .read 1 off :: rest :=
  ⟨{ base with script := [.read 1 0xF#4] }, 0xF#4, [], witness_hostTurn _, rfl⟩
theorem witness_HostWriteOfArgAndReadOnly :
    ∃ (s : State) (v : Byte) (l l' : List HostAction), s.hostTurn ∧ ({ s with script := l' } : State).hostTurn ∧
      s.script = .write 1 3#4 v :: l ∧ ({ s with script := l' } : State).script = .write 1 5#4 v :: [] ∧
      (3#4 : Offset) ≠ 0x4#4 ∧ (5#4 : Offset) ≠ 0x4#4 ∧ 4 ≤ (5#4 : Offset).toNat :=
  ⟨{ base with script := [.write 1 3#4 7#8] }, 7#8, [], [.write 1 5#4 7#8], witness_hostTurn _, witness_hostTurn _, rfl, rfl,
    by decide, by decide, by decide⟩
theorem witness_WindowIsLittleEndian :
    ∃ (s : State) (x : Word) (rest : List HostAction), s.seqState = .idle ∧ s.pitRunning = false ∧
      s.isrEnabled = false ∧ s.script = .write 1 0x0#4 (x.extractLsb' 0 8) :: .write 1 0x1#4 (x.extractLsb' 8 8) ::
        .write 1 0x2#4 (x.extractLsb' 16 8) :: .write 1 0x3#4 (x.extractLsb' 24 8) :: rest :=
  ⟨{ base with script := [.write 1 0#4 0x78#8, .write 1 1#4 0x56#8, .write 1 2#4 0x34#8, .write 1 3#4 0x12#8] },
    0x12345678#32, [], rfl, rfl, rfl, rfl⟩
theorem witness_HostSetsInterruptEnable :
    ∃ (s : State) (v : Bool) (rest : List HostAction), s.hostTurn ∧ s.script = .setIe v :: rest :=
  ⟨{ base with script := [.setIe false] }, false, [], witness_hostTurn _, rfl⟩
theorem witness_WriteOfOpIssuesOrErrs :
    (∃ (s : State) (v : Byte) (rest : List HostAction) (i : Instr), s.hostTurn ∧ s.script = .write 1 0x4#4 v :: rest ∧
      decode s.params.sleepZero v s.arg = .ok i) ∧
    (∃ (s : State) (v : Byte) (rest : List HostAction) (e : CmdError), s.hostTurn ∧
      s.script = .write 1 0x4#4 v :: rest ∧ decode s.params.sleepZero v s.arg = .error e) ∧
    (∃ s t : State, s.seqState = .busy ∧ step s = .next t) :=
  ⟨⟨{ base with script := [.write 1 4#4 0x20#8] }, 0x20#8, [], .i2cInit, witness_hostTurn _, rfl, rfl⟩,
    ⟨{ base with script := [.write 1 4#4 0x12#8] }, 0x12#8, [], .illegalOpcode, witness_hostTurn _, rfl, rfl⟩,
    ⟨busyAt .i2cInit 1, _, rfl, rfl⟩⟩
theorem witness_StepRunsDecodedCommand :
    (∃ (s : State) (v : Byte) (rest : List HostAction) (i : Instr), s.hostTurn ∧ s.script = .write 1 0x4#4 v :: rest ∧
      decode s.params.sleepZero v s.arg = .ok i) ∧
    (∃ (s : State) (i : Instr), s.seqTurn ∧ decode s.params.sleepZero s.curOp s.curArg = .ok i) :=
  ⟨⟨{ base with script := [.write 1 4#4 0x31#8] }, 0x31#8, [], .sleep 0#32, witness_hostTurn _, rfl, rfl⟩,
    ⟨busyAt .i2cStop 4, .i2cStop, ⟨rfl, rfl, rfl⟩, rfl⟩⟩
theorem witness_PlacedWordRunsNext :
    ∃ (s : State) (w : Nat) (i : Instr), decodeWord s.params.sleepZero (BitVec.ofNat 40 w) = .ok i :=
  ⟨base, 0x10FFFFFFFF, .delayBlocking 0xFFFFFFFF#32, rfl⟩
theorem witness_EachCommandIssues :
    (∃ (i : Instr) (s : State), s.seqState = .idle ∧ i.wf s.params.sleepZero = true) ∧
    (∃ s : State, s.seqState = .idle ∧ s.params.sleepZero = .refuse) :=
  ⟨⟨.sleep 0#32, base, rfl, rfl⟩, ⟨{ base with params := { base.params with sleepZero := .refuse } }, rfl, rfl⟩⟩
theorem witness_EachCommandCompletes :
    (∀ u ∈ [1, 2, 4, 6, 46, 47, 48], (busyAt .i2cInit u).seqState = .busy ∧ (busyAt .i2cInit u).upc = u) ∧
    ((busyAt (.sleep 0#32) 4).seqState = .busy ∧ cycles (busyAt (.sleep 0#32) 4).params 0#32 = some 1 ∧
      (busyAt (.sleep 0#32) 4).upc = 1 + 3) ∧
    ({ masked 47 [false] with ie := true } : State).isrTurn :=
  ⟨fun _ _ => ⟨rfl, rfl⟩, ⟨rfl, rfl, rfl⟩, ⟨rfl, rfl⟩⟩
theorem witness_EveryCommandAnswers :
    (∃ (i : Instr) (μ : List MicroOp) (s : State), i.program s.params = some μ ∧ s.seqState = .idle) ∧
    (∃ (i : Instr) (μ : List MicroOp) (s : State), i.program s.params = some μ ∧ s.seqState = .busy ∧ s.upc = μ.length) ∧
    (∃ (i : Instr) (μ : List MicroOp) (s : State), i.program s.params = some μ ∧ s.seqState = .busy ∧ s.upc ≤ μ.length ∧
      μ[s.upc]? = some .slpWait ∧ s.asleep = true) :=
  ⟨⟨.i2cInit, _, base, rfl, rfl⟩, ⟨.i2cInit, _, busyAt .i2cInit 2, rfl, rfl, rfl⟩,
    ⟨.sleep 3#32, sleepProgram 3, sleeping [], rfl, rfl, by decide, rfl, rfl⟩⟩

/-- The shape of the hypotheses of the micro-op statements: micro-op m stands at `UPC` of command i. -/
def At (i : Instr) (u : Nat) (m : MicroOp) : Prop :=
  ∃ μ, (busyAt i u).seqState = .busy ∧ i.program (busyAt i u).params = some μ ∧ μ[(busyAt i u).upc]? = some m

theorem witness_PinMicroOps :
    At .i2cStart 0 .sclH ∧ At .i2cStart 3 .sclL ∧ At .i2cStart 1 .sdaLo ∧ At .i2cStop 3 .sdaHi ∧ At .i2cInit 1 .sdaRel ∧
      At .i2cStart 2 .dly :=
  ⟨⟨_, rfl, rfl, rfl⟩, ⟨_, rfl, rfl, rfl⟩, ⟨_, rfl, rfl, rfl⟩, ⟨_, rfl, rfl, rfl⟩, ⟨_, rfl, rfl, rfl⟩, ⟨_, rfl, rfl, rfl⟩⟩
theorem witness_SampleMicroOps : At (.i2cReadByte true) 38 .smpBit ∧ At (.i2cWriteByte 0xFF#8) 43 .smpAck :=
  ⟨⟨_, rfl, rfl, rfl⟩, ⟨_, rfl, rfl, rfl⟩⟩
theorem witness_InterruptMaskMicroOps : At (.i2cWriteByte 1#8) 0 .irqOff ∧ At (.i2cReadByte false) 45 .irqOn :=
  ⟨⟨_, rfl, rfl, rfl⟩, ⟨_, rfl, rfl, rfl⟩⟩
theorem witness_CounterMicroOps :
    At (.delayBlocking 9#32) 0 .msStart ∧ At (.delayBlocking 9#32) 1 (.msWait 9#32) ∧ At (.delayPoll 9#32) 0 (.msPoll 9#32) :=
  ⟨⟨_, rfl, rfl, rfl⟩, ⟨_, rfl, rfl, rfl⟩, ⟨_, rfl, rfl, rfl⟩⟩
theorem witness_SleepConfigMicroOps :
    At (.sleepConfig 13#32) 0 .pitClk ∧ At (.sleepConfig 13#32) 1 .pitSync ∧ At (.sleepConfig 13#32) 2 .pitIeSet ∧
      At (.sleepConfig 13#32) 3 (.pitPer 13) ∧ At (.sleepConfig 14#32) 3 (.pitPer 8) ∧
      At (.sleepConfig 13#32) 4 .pullupsOn ∧ At (.sleepConfig 13#32) 5 .slpEnable :=
  ⟨⟨_, rfl, rfl, rfl⟩, ⟨_, rfl, rfl, rfl⟩, ⟨_, rfl, rfl, rfl⟩, ⟨_, rfl, rfl, rfl⟩, ⟨_, rfl, rfl, rfl⟩, ⟨_, rfl, rfl, rfl⟩,
    ⟨_, rfl, rfl, rfl⟩⟩
theorem witness_SleepMicroOps :
    At (.sleep 1#32) 0 .adcOff ∧ At (.sleep 1#32) 1 .smodePd ∧ At (.sleep 1#32) 3 .adcOn ∧ At (.sleep 1#32) 2 .slpWait :=
  ⟨⟨_, rfl, rfl, rfl⟩, ⟨_, rfl, rfl, rfl⟩, ⟨_, rfl, rfl, rfl⟩, ⟨_, rfl, rfl, rfl⟩⟩

/-- The hypothesis of BusControlCommandsRun, WriteByteRun, ReadByteRun and DelayPollRun. -/
theorem witness_idle : ∃ s : State, s.seqState = .idle := ⟨base, rfl⟩
/-- V-B2 for n = 0, V-B1 for n = 2. -/
theorem witness_DelayBlockingRun :
    (∃ (s : State) (d : Word), s.seqState = .idle ∧
      d.toNat ≤ ((s.msAt 1).toNat + (2 ^ 32 - (s.msAt 0).toNat)) % 2 ^ 32) ∧
    (∃ (s : State) (d : Word), s.seqState = .idle ∧
      (∀ k : Nat, k < 2 → ((s.msAt (k + 1)).toNat + (2 ^ 32 - (s.msAt 0).toNat)) % 2 ^ 32 < d.toNat) ∧
      d.toNat ≤ ((s.msAt 3).toNat + (2 ^ 32 - (s.msAt 0).toNat)) % 2 ^ 32) :=
  ⟨⟨{ base with msFeed := { planned := [7#32, 7#32], ix := 0 } }, 0#32, rfl, by decide⟩,
    ⟨{ base with msFeed := { planned := [100#32, 101#32, 102#32, 103#32], ix := 0 } }, 3#32, rfl, by decide, by decide⟩⟩
/-- A fire after an advance of d + 1 across the wrap, and the last count without one. -/
theorem witness_PollWindow :
    ∀ c' ∈ [0x100000010, 0x100000011], ∃ s : State, s.seqState = .busy ∧ s.upc = 0 ∧
      s.tsPoll = BitVec.ofNat 32 0xFFFFFFF0 ∧ s.msAt 0 = BitVec.ofNat 32 c' ∧ 0xFFFFFFF0 ≤ c' ∧
      c' < 0xFFFFFFF0 + 2 ^ 32 := by
  intro c' h
  refine ⟨{ busyAt (.delayPoll 32#32) 0 with
    tsPoll := 0xFFFFFFF0#32, msFeed := { planned := [BitVec.ofNat 32 c'], ix := 0 } }, rfl, rfl, rfl, rfl, ?_, ?_⟩
  · revert c'; decide
  · revert c'; decide
theorem witness_SleepConfigRun :
    (∃ (s : State) (x : Word) (k : Fin 14), s.seqState = .idle ∧ k.val = (if x.toNat ≤ 13 then x.toNat else 8) ∧
      s.syncAt 0 = false) ∧
    (∃ (s : State) (x : Word) (k : Fin 14), s.seqState = .idle ∧ k.val = (if x.toNat ≤ 13 then x.toNat else 8) ∧
      (∀ j : Nat, j < 2 → s.syncAt j = true) ∧ s.syncAt 2 = false) :=
  ⟨⟨{ base with syncFeed := { planned := [false], ix := 0 } }, 14#32, 8, rfl, by decide, rfl⟩,
    ⟨{ base with syncFeed := { planned := [true, true, false], ix := 0 } }, 13#32, 13, rfl, by decide, by decide, rfl⟩⟩
theorem witness_OutOfRangeIntervalsAreIndexEight :
    (∃ (s : State) (x : Word), 14 ≤ x.toNat ∧ s.seqState = .busy) ∧ (∃ s : State, s.seqState = .busy ∧ s.upc = 3) :=
  ⟨⟨busyAt (.sleepConfig 14#32) 3, 14#32, by decide, rfl⟩, ⟨busyAt (.sleepConfig 13#32) 3, rfl, rfl⟩⟩
/-- V-Z2: one cycle. -/
theorem witness_SleepRun :
    ∃ (s : State) (rest : List HostAction), s.seqState = .idle ∧ s.asleep = false ∧ s.pitRunning = true ∧
      s.pitIe = true ∧ s.ie = true ∧ s.pitPend = false ∧ s.arg = 0#32 ∧ s.script = .write 1 0x4#4 0x31#8 :: rest ∧
      cycles s.params 0#32 = some 1 ∧
      (∀ j : Nat, j < 3 * 1 + 5 → s.tickAt j = decide (3 ≤ j ∧ j < 3 * 1 + 3 ∧ (j - 3) % 3 = 1)) :=
  ⟨{ timed [false, false, false, false, true, false, false, false] with script := [.write 1 4#4 0x31#8] }, [],
    rfl, rfl, rfl, rfl, rfl, rfl, rfl, rfl, rfl, by decide⟩
theorem witness_TickSetsPending :
    (∃ s : State, s.ticksNow = true) ∧ (∃ s : State, s.pitRunning = true) := ⟨⟨timed [true], rfl⟩, ⟨timed [], rfl⟩⟩
theorem witness_IsrStep :
    (∃ s : State, s.ticksNow = false ∧ s.ie = true ∧ s.pitIe = true ∧ s.pitPend = true ∧ s.asleep = true) ∧
    (∃ (s t : State) (evs : List Event), step s = .next t ∧ t.trace = s.trace ++ evs ∧ (.isr ∈ evs ∨ .wake ∈ evs)) :=
  ⟨⟨{ sleeping [false] with pitPend := true }, rfl, rfl, rfl, rfl, rfl⟩,
    ⟨{ sleeping [false] with pitPend := true }, _, [.isr, .wake], rfl, rfl, by decide⟩⟩
theorem witness_TicksCoalesce :
    ∃ s : State, s.pitRunning = true ∧ s.ie = true ∧ s.pitIe = true ∧ (∀ j : Nat, j ≤ 2 → s.tickAt j = true) ∧
      s.tickAt (2 + 1) = false :=
  ⟨timed [true, true, true, false], rfl, rfl, rfl, by decide, rfl⟩
theorem witness_CriticalSectionDefersIsr :
    ∃ (s t : State) (i : Instr) (μ : List MicroOp), s.Inv ∧ s.seqState = .busy ∧ s.current = some i ∧ i.masksIrq = true ∧
      i.program s.params = some μ ∧ 0 < s.upc ∧ s.upc < μ.length ∧ step s = .next t ∧ s.pitPend = true :=
  ⟨masked 46 [false], _, .i2cWriteByte 0xFF#8, _, masked_inv 46 (by decide) _, rfl, rfl, rfl, rfl, by decide, by decide, rfl, rfl⟩
/-- V-Q1, for both ways to the enable. -/
theorem witness_IrqOnThenIsr :
    ∃ (s t : State) (i : Instr) (μ : List MicroOp), s.seqTurn ∧ s.current = some i ∧ i.masksIrq = true ∧
      i.program s.params = some μ ∧ s.upc + 1 = μ.length ∧ s.pitPend = true ∧ s.pitIe = true ∧ s.asleep = false ∧
      s.params.irqResume = .enable ∧ s.ieSaved = true ∧ step s = .next t ∧ t.ticksNow = false :=
  ⟨{ masked 46 [false, false] with ieSaved := true }, _, .i2cWriteByte 0xFF#8, _, ⟨rfl, rfl, rfl⟩, rfl, rfl, rfl, rfl, rfl, rfl,
    rfl, rfl, rfl, rfl, rfl⟩
theorem witness_SleepHoldsUntilIsr :
    ∃ s : State, s.seqState = .busy ∧ s.asleep = true ∧ s.current = some (.sleep 3#32) ∧
      cycles s.params 3#32 = some 3 ∧ 2 ≤ s.upc ∧ s.upc < 3 + 2 ∧ s.pitRunning = true ∧ s.ie = true ∧ s.pitIe = true ∧
      s.pitPend = false ∧ (∀ l : Nat, l < 2 → s.tickAt l = false) ∧ s.tickAt 2 = true ∧ s.tickAt (2 + 1) = false :=
  ⟨sleeping [false, false, true, false], rfl, rfl, rfl, rfl, by decide, by decide, rfl, rfl, rfl, rfl, by decide, rfl, rfl⟩
/-- V-Z6 with the host's mask, with the timer's, and V-Z7 with no timer. -/
theorem witness_SleepStuckWithoutInterrupt :
    ∀ s ∈ [{ sleeping [true] with ie := false }, { sleeping [true] with pitIe := false },
        { sleeping [] with pitClksel := .none }],
      s.seqState = .busy ∧ s.asleep = true ∧ s.current = some (.sleep 3#32) ∧ cycles s.params 3#32 = some 3 ∧
        2 ≤ s.upc ∧ s.upc < 3 + 2 ∧ (s.ie = false ∨ s.pitIe = false ∨ (s.pitRunning = false ∧ s.pitPend = false)) := by
  decide
theorem witness_StateSurvivesSleep : ∃ s t : State, s.Inv ∧ s.asleep = true ∧ step s = .next t :=
  ⟨sleeping [true], _, sleeping_inv _, rfl, rfl⟩

theorem witness_DelayFrame :
    (∃ (ms : Word) (s t : State), exec (.delayBlocking ms) s = .next t ∧ s.seqState = .busy ∧ t.seqState = .busy) ∧
      ∃ (ms : Word) (s t : State), exec (.delayPoll ms) s = .next t ∧ s.seqState = .busy ∧ t.seqState = .busy :=
  ⟨⟨3#32, busyAt (.delayBlocking 3#32) 0, _, rfl, rfl, rfl⟩,
    ⟨3#32, { busyAt (.delayPoll 3#32) 0 with msFeed := { planned := [9#32], ix := 0 } }, _, rfl, rfl, rfl⟩⟩
theorem witness_BusControlFrame :
    (∃ s t : State, exec .i2cInit s = .next t ∧ s.seqState = .busy ∧ t.seqState = .busy) ∧
      (∃ s t : State, exec .i2cStart s = .next t ∧ s.seqState = .busy ∧ t.seqState = .busy) ∧
      ∃ s t : State, exec .i2cStop s = .next t ∧ s.seqState = .busy ∧ t.seqState = .busy :=
  ⟨⟨busyAt .i2cInit 0, _, rfl, rfl, rfl⟩, ⟨busyAt .i2cStart 3, _, rfl, rfl, rfl⟩, ⟨busyAt .i2cStop 3, _, rfl, rfl, rfl⟩⟩
theorem witness_ByteOperationFrame :
    (∃ (d : Byte) (s t : State), exec (.i2cWriteByte d) s = .next t ∧ s.seqState = .busy ∧ t.seqState = .busy ∧
      s.params.irqResume = .enable) ∧
      ∃ s t : State, exec (.i2cReadByte false) s = .next t ∧ s.seqState = .busy ∧ t.seqState = .busy :=
  ⟨⟨0xFF#8, busyAt (.i2cWriteByte 0xFF#8) 46, _, rfl, rfl, rfl, rfl⟩, ⟨busyAt (.i2cReadByte false) 0, _, rfl, rfl, rfl⟩⟩
theorem witness_SleepCommandsFrame :
    (∃ (x : Word) (s t : State), exec (.sleepConfig x) s = .next t ∧ s.seqState = .busy ∧ t.seqState = .busy) ∧
      ∃ (n : Word) (s t : State), exec (.sleep n) s = .next t ∧ s.seqState = .busy ∧ s.asleep = true ∧ t.seqState = .busy :=
  ⟨⟨13#32, busyAt (.sleepConfig 13#32) 5, _, rfl, rfl, rfl⟩, ⟨3#32, sleeping [], _, rfl, rfl, rfl, rfl⟩⟩

theorem witness_TimestampWriters :
    (∃ (i : Instr) (s t : State), exec i s = .next t ∧ t.tsBlock ≠ s.tsBlock) ∧
      (∃ (i : Instr) (s t : State), exec i s = .next t ∧ t.tsPoll ≠ s.tsPoll) ∧
      (∃ s t : State, step s = .next t ∧ t.tsBlock ≠ s.tsBlock) ∧ ∃ s t : State, step s = .next t ∧ t.tsPoll ≠ s.tsPoll :=
  ⟨⟨.delayBlocking 3#32, { busyAt (.delayBlocking 3#32) 0 with msFeed := { planned := [9#32], ix := 0 } }, _, rfl, by decide⟩,
    ⟨.delayPoll 3#32, { busyAt (.delayPoll 3#32) 0 with msFeed := { planned := [9#32], ix := 0 } }, _, rfl, by decide⟩,
    ⟨{ busyAt (.delayBlocking 3#32) 0 with msFeed := { planned := [9#32], ix := 0 } }, _, rfl, by decide⟩,
    ⟨{ busyAt (.delayPoll 3#32) 0 with msFeed := { planned := [9#32], ix := 0 } }, _, rfl, by decide⟩⟩
theorem witness_RegisterWriters :
    (∃ s t : State, step s = .next t ∧ t.arg ≠ s.arg) ∧ (∃ s t : State, step s = .next t ∧ t.op ≠ s.op) ∧
      (∃ s t : State, step s = .next t ∧ t.err ≠ s.err) ∧
      ∃ s t : State, step s = .next t ∧ t.result ≠ s.result ∧ s.seqState = .busy ∧ t.seqState = .idle :=
  ⟨⟨{ base with script := [.write 1 3#4 7#8] }, _, rfl, by decide⟩,
    ⟨{ base with script := [.write 1 4#4 0x20#8] }, _, rfl, by decide⟩,
    ⟨{ base with script := [.write 1 4#4 0x99#8] }, _, rfl, by decide⟩,
    ⟨busyAt (.i2cWriteByte 0xFF#8) 47, _, rfl, by decide, rfl, rfl⟩⟩
theorem witness_InterruptEnableWriters :
    (∃ s t : State, step s = .next t ∧ t.ie ≠ s.ie ∧ s.seqState = .idle) ∧
      (∃ s t : State, step s = .next t ∧ t.ie ≠ s.ie ∧ s.upc = 0 ∧ s.seqState = .busy) ∧
      ∃ s t : State, step s = .next t ∧ t.ie ≠ s.ie ∧ s.upc = 46 ∧ s.seqState = .busy :=
  ⟨⟨{ base with script := [.setIe false] }, _, rfl, by decide, rfl⟩, ⟨busyAt (.i2cWriteByte 0xFF#8) 0, _, rfl, by decide, rfl, rfl⟩,
    ⟨masked 46 [false], _, rfl, by decide, rfl, rfl⟩⟩
theorem witness_ClockNeverReleasedAgain :
    (∃ s t : State, step s = .next t ∧ s.sclMode ≠ .released) ∧ ∃ s t : State, step s = .next t ∧ t.sclMode ≠ s.sclMode :=
  ⟨⟨{ busyAt .i2cInit 1 with sclMode := .driveHigh }, _, rfl, by decide⟩, ⟨busyAt .i2cInit 0, _, rfl, by decide⟩⟩
theorem witness_SleepSetupIsNeverUndone :
    (∃ s t : State, step s = .next t ∧ s.pullups = true ∧ s.pitClksel = .lowfreqInternal ∧ s.pitIe = true ∧
      s.slpEn = true ∧ s.slpMode = .powerDown) ∧
      (∃ s t : State, step s = .next t ∧ t.pitPeriod ≠ s.pitPeriod) ∧ ∃ s t : State, step s = .next t ∧ t.adcEn ≠ s.adcEn :=
  ⟨⟨sleeping [true], _, rfl, rfl, rfl, rfl, rfl, rfl⟩, ⟨configuring, _, rfl, by decide⟩,
    ⟨busyAt (.sleep 1#32) 0, _, rfl, by decide⟩⟩
/-- A step that appends an event, and one that appends none. -/
theorem witness_TraceOnlyGrows :
    (∃ s t : State, step s = .next t ∧ t.trace = s.trace ++ [.tick]) ∧ ∃ s t : State, step s = .next t ∧ t.trace = s.trace :=
  ⟨⟨timed [true], _, rfl, rfl⟩, ⟨base, _, rfl, rfl⟩⟩
theorem witness_RunningCommandReadsNoWindow : ∃ s : State, s.seqState = .busy := ⟨busyAt .i2cInit 0, rfl⟩
theorem witness_DataChangesOnlyWithClockLow :
    ∃ (i : Instr) (s t : State) (μ : List MicroOp) (m : MicroOp), i.masksIrq = true ∧ s.seqState = .idle ∧
      s.sclMode = .driveLow ∧ i.program s.params = some μ ∧ execRun i 2 s = .next t ∧ t.seqState = .busy ∧
      μ[t.upc]? = some m ∧ (m = .sdaLo ∨ m = .sdaHi ∨ m = .sdaRel) :=
  ⟨.i2cWriteByte 0xFF#8, { base with sclMode := .driveLow }, _, _, .sdaHi, rfl, rfl, rfl, rfl, rfl, rfl, rfl, by decide⟩
theorem witness_InvariantKeptByEveryStep : ∃ s t : State, s.Inv ∧ step s = .next t :=
  ⟨masked 46 [false], _, masked_inv 46 (by decide) _, rfl⟩
theorem witness_NoFaultFromInvariant : ∃ s : State, s.Inv := ⟨configuring, configuring_inv⟩

end Sys2Proof.Tests
end

section
/-! SUPPORT. The forms of one step of the machine, one constructor per kind of step: an inversion of `step` whose
cases carry the guards of the spec and name the agent. -/

namespace Sys2Proof.Machine

/-- The decoder never answers a `SLEEP` of 0 cycles under `REFUSE` (R63, R122). -/
theorem decode_sleep_not_refused {mode : SleepZeroMode} {op : Byte} {arg n : Word}
    (h : decode mode op arg = .ok (.sleep n)) : ¬(n = 0#32 ∧ mode = .refuse) := by
  unfold decode at h
  repeat' split at h
  all_goals cases h
  assumption

/-- A count that is not refused has its cycles (R122). -/
theorem cycles_of_not_refused {p : Params} {n : Word} (h : ¬(n = 0#32 ∧ p.sleepZero = .refuse)) :
    ∃ k, cycles p n = some k := by
  unfold cycles
  split
  · cases hz : p.sleepZero with
    | refuse => exact absurd ⟨‹_›, hz⟩ h
    | one | underflow => exact ⟨_, rfl⟩
  · exact ⟨_, rfl⟩

/-- A decoded command has a micro-program. -/
theorem program_of_decode {p : Params} {op : Byte} {arg : Word} {i : Instr}
    (h : decode p.sleepZero op arg = .ok i) : ∃ μ, i.program p = some μ := by
  cases i with
  | sleep n =>
    obtain ⟨k, hk⟩ := cycles_of_not_refused (decode_sleep_not_refused h)
    exact ⟨sleepProgram k, by simp [Instr.program, hk]⟩
  | _ => exact ⟨_, rfl⟩

/-- `StepForm s t`: one step takes s to t, as the constructor's name says. -/
inductive StepForm (s : State) : State → Prop
  | tick (ht : s.ticksNow = true) : StepForm s s.tickChosen.tick
  | isr (hi : s.isrTurn) : StepForm s s.tickChosen.takeIsr
  | micro {i : Instr} {μ : List MicroOp} {m : MicroOp} (hs : s.seqTurn) (hc : s.current = some i)
      (hp : i.program s.params = some μ) (hm : μ[s.upc]? = some m) : StepForm s (runMicro m s.tickChosen)
  | complete {i : Instr} {μ : List MicroOp} (hs : s.seqTurn) (hc : s.current = some i)
      (hp : i.program s.params = some μ) (hu : s.upc = μ.length) :
      StepForm s (s.tickChosen.complete (i.resultOf s.tickChosen))
  | hostDone (hh : s.hostTurn) (hl : s.script = []) : StepForm s s.tickChosen
  | hostRead {off : Offset} {rest : List HostAction} (hh : s.hostTurn) (hl : s.script = .read 1 off :: rest) :
      StepForm s ({ s.tickChosen with script := rest }.memRead off)
  | hostWrite {off : Offset} {v : Byte} {rest : List HostAction} (hh : s.hostTurn)
      (hl : s.script = .write 1 off v :: rest) (hne : off ≠ 0x4#4) :
      StepForm s ({ s.tickChosen with script := rest }.memWrite off v)
  | hostIssue {v : Byte} {rest : List HostAction} {i : Instr} (hh : s.hostTurn)
      (hl : s.script = .write 1 0x4#4 v :: rest) (hd : decode s.params.sleepZero v s.arg = .ok i) :
      StepForm s (({ s.tickChosen with script := rest }.writeOp v).issue i.opcode i.argument)
  | hostError {v : Byte} {rest : List HostAction} {e : CmdError} (hh : s.hostTurn)
      (hl : s.script = .write 1 0x4#4 v :: rest) (hd : decode s.params.sleepZero v s.arg = .error e) :
      StepForm s (({ s.tickChosen with script := rest }.writeOp v).raiseCmdError e)
  | hostSetIe {v : Bool} {rest : List HostAction} (hh : s.hostTurn) (hl : s.script = .setIe v :: rest) :
      StepForm s ({ s.tickChosen with script := rest }.setIe v)

/-- A step of the current command at the sequencer's turn is a micro-op or the completion (R57, R58). -/
theorem stepForm_of_seqTurn {s t : State} {i : Instr} (hs : s.seqTurn) (hc : s.current = some i)
    (h : exec i s.tickChosen = .next t) : StepForm s t := by
  have hb : s.tickChosen.seqState ≠ .idle := by simp [hs.2.2]
  rcases exec_cases h with ⟨_, hidle, _⟩ | ⟨μ, m, _, hp, hm, rfl⟩ | ⟨μ, _, hp, hu, rfl⟩ | ⟨hidle, _⟩
  · exact absurd hidle hb
  · exact .micro hs hc (by simpa using hp) (by simpa using hm)
  · exact .complete hs hc (by simpa using hp) (by simpa using hu)
  · exact absurd hidle hb

/-- A step at the host's turn is its next action; a write of `OP` issues or raises an error (R12, R32, R56). -/
theorem stepForm_of_hostTurn {s t : State} (hh : s.hostTurn) (h : hostStep s.tickChosen = .next t) :
    StepForm s t := by
  have hidle : s.seqState = .idle := hh.2.2
  rcases hostStep_cases h with ⟨hl, rfl⟩ | ⟨off, rest, hl, rfl⟩ | ⟨off, v, rest, hl, hne, rfl⟩ |
    ⟨v, rest, hl, ⟨i, hd, he⟩ | ⟨e, hd, rfl⟩⟩ | ⟨v, rest, hl, rfl⟩ <;> rw [State.tickChosen_script] at hl
  · exact .hostDone hh hl
  · exact .hostRead hh hl
  · exact .hostWrite hh hl hne
  · rw [State.tickChosen_params, State.tickChosen_arg] at hd
    obtain ⟨μ, hp⟩ := program_of_decode hd
    rw [exec_idle (by simpa using hidle) (by simpa using hp)] at he
    cases he
    exact .hostIssue hh hl hd
  · exact .hostError hh hl (by simpa using hd)
  · exact .hostSetIe hh hl

/-- Every step that answers a next state has one of the forms. -/
theorem stepForm_of_step {s t : State} (h : step s = .next t) : StepForm s t := by
  rcases step_cases h with ⟨ht, rfl⟩ | ⟨hi, rfl⟩ | ⟨hs, i, hc, he⟩ | ⟨hh, he⟩
  · exact .tick ht
  · exact .isr hi
  · exact stepForm_of_seqTurn hs hc he
  · exact stepForm_of_hostTurn hh he

end Sys2Proof.Machine
end

section
/-! SUPPORT. Which micro-ops change `IE`, the timer and the trace, and where those micro-ops stand in the commands'
micro-programs. -/

namespace Sys2Proof.Machine

theorem runMicro_slpWait (s : State) : runMicro .slpWait s =
    { s with asleep := true, trace := s.trace ++ (if s.asleep then [] else [.sleep]) } := by
  cases ha : s.asleep
  · simp [runMicro_slpWait_awake ha]
  · rw [runMicro_slpWait_asleep ha]
    ext1 <;> simp [ha]

/-- Only `IRQ_OFF` and `IRQ_ON` change `IE` (R92, R93). -/
theorem runMicro_ie (m : MicroOp) (s : State) : (runMicro m s).ie = s.ie ∨ m = .irqOff ∨ m = .irqOn := by
  cases m with
  | irqOff => exact .inr (.inl rfl)
  | irqOn => exact .inr (.inr rfl)
  | msWait d => exact .inl (by rw [runMicro_msWait])
  | msPoll d => exact .inl (by rw [runMicro_msPoll])
  | pitSync => exact .inl (by rw [runMicro_pitSync])
  | slpWait => exact .inl (by rw [runMicro_slpWait])
  | _ => exact .inl rfl

/-- Only `PIT_CLK` and `PIT_PER` can change whether the timer runs (R33, R110, R113). -/
theorem runMicro_pitRunning (m : MicroOp) (s : State) :
    (runMicro m s).pitRunning = s.pitRunning ∨ m = .pitClk ∨ ∃ k, m = .pitPer k := by
  cases m with
  | pitClk => exact .inr (.inl rfl)
  | pitPer k => exact .inr (.inr ⟨k, rfl⟩)
  | msWait d => exact .inl (by rw [runMicro_msWait]; rfl)
  | msPoll d => exact .inl (by rw [runMicro_msPoll]; rfl)
  | pitSync => exact .inl (by rw [runMicro_pitSync]; rfl)
  | slpWait => exact .inl (by rw [runMicro_slpWait]; rfl)
  | _ => exact .inl rfl

/-- A micro-op appends one event, but for the `SLP_WAIT` of a sleeping sequencer, which does nothing (R118). -/
theorem runMicro_trace (m : MicroOp) (s : State) :
    (∃ e, (runMicro m s).trace = s.trace ++ [e]) ∨ runMicro m s = s := by
  cases m with
  | msWait d => exact .inl ⟨_, by rw [runMicro_msWait]⟩
  | msPoll d => exact .inl ⟨_, by rw [runMicro_msPoll]⟩
  | pitSync => exact .inl ⟨_, by rw [runMicro_pitSync]⟩
  | slpWait =>
    cases ha : s.asleep
    · exact .inl ⟨.sleep, by rw [runMicro_slpWait_awake ha]⟩
    · exact .inr (runMicro_slpWait_asleep ha)
  | _ => exact .inl ⟨_, rfl⟩

/-! ### Positions in the micro-programs -/

/-- The micro-ops a byte operation has between its masking and its unmasking of interrupts: pins, delays and samples
(R84 to R91). -/
def busOp : MicroOp → Bool
  | .sclH | .sclL | .sdaLo | .sdaHi | .sdaRel | .dly | .smpBit | .smpAck => true
  | _ => false

@[simp] theorem wbit_all_busOp (b : Bool) : (wbit b).all busOp = true := by cases b <;> rfl
@[simp] theorem wlast_all_busOp (b : Bool) : (wlast b).all busOp = true := by cases b <;> rfl
@[simp] theorem rbit_all_busOp : rbit.all busOp = true := rfl
@[simp] theorem acks_all_busOp : acks.all busOp = true := rfl
@[simp] theorem ackt_all_busOp (a : Bool) : (ackt a).all busOp = true := by cases a <;> rfl

/-- A byte operation is `IRQ_OFF`, then micro-ops on the bus, then `IRQ_ON` (R103, R104). -/
theorem masksIrq_program {i : Instr} {p : Params} {μ : List MicroOp} (hi : i.masksIrq = true)
    (hp : i.program p = some μ) : ∃ body, μ = .irqOff :: (body ++ [.irqOn]) ∧ body.all busOp = true := by
  cases i with
  | i2cWriteByte d =>
    cases hp
    refine ⟨wbit (dataBit d 7) ++ wbit (dataBit d 6) ++ wbit (dataBit d 5) ++ wbit (dataBit d 4) ++
      wbit (dataBit d 3) ++ wbit (dataBit d 2) ++ wbit (dataBit d 1) ++ wlast (dataBit d 0) ++ acks,
      by simp [i2cWriteByteProgram], ?_⟩
    simp only [List.all_append, wbit_all_busOp, wlast_all_busOp, acks_all_busOp, Bool.and_self]
  | i2cReadByte a =>
    cases hp
    refine ⟨rbit ++ rbit ++ rbit ++ rbit ++ rbit ++ rbit ++ rbit ++ rbit ++ ackt a,
      by simp [i2cReadByteProgram], ?_⟩
    simp only [List.all_append, rbit_all_busOp, ackt_all_busOp, Bool.and_self]
  | _ => cases hi

/-- Only a byte operation has an `IRQ_OFF` or `IRQ_ON` (R105). -/
theorem masksIrq_of_mem_program {i : Instr} {p : Params} {μ : List MicroOp} {m : MicroOp}
    (hp : i.program p = some μ) (hmem : m ∈ μ) (hm : m = .irqOff ∨ m = .irqOn) : i.masksIrq = true := by
  cases i with
  | i2cWriteByte _ | i2cReadByte _ => rfl
  | sleep n =>
    obtain ⟨k, -, rfl⟩ := Option.map_eq_some_iff.mp hp
    rcases hm with rfl | rfl <;> simp [sleepProgram] at hmem
  | _ =>
    cases hp
    rcases hm with rfl | rfl <;>
      simp [delayBlockingProgram, delayPollProgram, i2cInitProgram, i2cStartProgram, i2cStopProgram,
        sleepConfigProgram] at hmem

/-- `IRQ_OFF` stands first and `IRQ_ON` last, and in byte operations only (R103, R104, R105). -/
theorem irqOff_irqOn_index {i : Instr} {p : Params} {μ : List MicroOp} {m : MicroOp} {u : Nat}
    (hp : i.program p = some μ) (hu : μ[u]? = some m) (hm : m = .irqOff ∨ m = .irqOn) :
    i.masksIrq = true ∧ (u = 0 ∨ u + 1 = μ.length) := by
  have hi := masksIrq_of_mem_program hp (List.mem_of_getElem? hu) hm
  refine ⟨hi, ?_⟩
  obtain ⟨body, rfl, hbody⟩ := masksIrq_program hi hp
  cases u with
  | zero => exact .inl rfl
  | succ u =>
    rw [List.getElem?_cons_succ] at hu
    by_cases hlt : u < body.length
    · rw [List.getElem?_append_left hlt] at hu
      have hbus := List.all_eq_true.mp hbody m (List.mem_of_getElem? hu)
      rcases hm with rfl | rfl <;> cases hbus
    · have hle := (List.getElem?_eq_some_iff.mp hu).1
      simp at hle ⊢
      omega

/-- `PIT_PER` stands at index 3 of `SLEEP_CONFIG` and nowhere else (R120). -/
theorem pitPer_index {i : Instr} {p : Params} {μ : List MicroOp} {k : Fin Config.nIntervals} {u : Nat}
    (hp : i.program p = some μ) (hu : μ[u]? = some (.pitPer k)) : u = 3 ∧ ∃ x, i = .sleepConfig x := by
  have hmem := List.mem_of_getElem? hu
  cases i with
  | sleepConfig x =>
    cases hp
    refine ⟨?_, x, rfl⟩
    have hlt : u < 6 := (List.getElem?_eq_some_iff.mp hu).1
    interval_cases u <;> simp [sleepConfigProgram] at hu ⊢
  | i2cWriteByte _ | i2cReadByte _ =>
    obtain ⟨body, rfl, hbody⟩ := masksIrq_program rfl hp
    have hbus : MicroOp.pitPer k ∈ body := by simpa using hmem
    cases List.all_eq_true.mp hbody _ hbus
  | sleep n =>
    obtain ⟨c, -, rfl⟩ := Option.map_eq_some_iff.mp hp
    simp [sleepProgram] at hmem
  | _ =>
    cases hp
    simp [delayBlockingProgram, delayPollProgram, i2cInitProgram, i2cStartProgram, i2cStopProgram] at hmem

/-! ### The timer (R33) -/

theorem pitRunning_iff (s : State) :
    s.pitRunning = true ↔ s.pitClksel = .lowfreqInternal ∧ s.pitPeriod ≠ none := by
  simp [State.pitRunning, Option.isSome_iff_ne_none]

/-- No micro-op stops the timer. -/
theorem runMicro_keeps_pitRunning (m : MicroOp) {s : State} (h : s.pitRunning = true) :
    (runMicro m s).pitRunning = true := by
  obtain ⟨hclk, hper⟩ := (pitRunning_iff s).mp h
  rcases runMicro_pitRunning m s with heq | rfl | ⟨k, rfl⟩
  · rw [heq, h]
  · simp [runMicro_pitClk, pitRunning_iff, hper]
  · simp [runMicro_pitPer, pitRunning_iff, hclk]

/-- Where the clock is selected before any period is programmed, only `PIT_PER` starts the timer. -/
theorem pitPer_of_starts {m : MicroOp} {s : State} (hpit : s.pitPeriod ≠ none → s.pitClksel = .lowfreqInternal)
    (h0 : s.pitRunning = false) (h1 : (runMicro m s).pitRunning = true) : ∃ k, m = .pitPer k := by
  have hnone : s.pitPeriod = none := by
    by_contra hne
    simp [(pitRunning_iff s).mpr ⟨hpit hne, hne⟩] at h0
  rcases runMicro_pitRunning m s with heq | rfl | hm
  · simp [heq, h0] at h1
  · simp [runMicro_pitClk, pitRunning_iff, hnone] at h1
  · exact hm

@[simp] theorem tickChosen_pitRunning (s : State) : s.tickChosen.pitRunning = s.pitRunning := by
  simp [State.pitRunning]

/-- A step leaves the timer running or stopped as it was, unless it is a micro-op. -/
theorem stepForm_pitRunning {s t : State} (h : StepForm s t) :
    t.pitRunning = s.pitRunning ∨ ∃ i μ m, s.seqTurn ∧ s.current = some i ∧ i.program s.params = some μ ∧
      μ[s.upc]? = some m ∧ t = runMicro m s.tickChosen := by
  cases h with
  | micro hs hc hp hm => exact .inr ⟨_, _, _, hs, hc, hp, hm, rfl⟩
  | _ => exact .inl (by simp [State.pitRunning])

end Sys2Proof.Machine
end

section
/-! The statements about the state: who writes its registers, the interrupt enable, the timer and the trace, and its
values after reset. -/

namespace Sys2Proof.Machine

/-- Settles O8: of all steps only a micro-op touches the timer, and of the micro-ops only `PIT_PER` can start it. -/
theorem pitStartsOnlyBySleepConfig : Obligations.PitStartsOnlyBySleepConfig := by
  refine ⟨fun s t hinv h h0 h1 => ?_, fun s t h h0 => ?_⟩
  · obtain ⟨-, -, -, ⟨hper, -, -⟩, -, -⟩ := hinv
    rcases stepForm_pitRunning (stepForm_of_step h) with heq | ⟨i, μ, m, hs, hc, hp, hm, rfl⟩
    · simp [heq, h0] at h1
    · have hpit : s.tickChosen.pitPeriod ≠ none → s.tickChosen.pitClksel = .lowfreqInternal := by
        simpa using fun hne => (hper hne).1
      obtain ⟨k, rfl⟩ := pitPer_of_starts hpit (by simpa using h0) h1
      obtain ⟨hu, x, rfl⟩ := pitPer_index hp hm
      exact ⟨hs, hu, x, hc⟩
  · rcases stepForm_pitRunning (stepForm_of_step h) with heq | ⟨_, _, m, _, _, _, _, rfl⟩
    · rw [heq, h0]
    · exact runMicro_keeps_pitRunning m (by simpa using h0)

/-- A write at an offset above 3 leaves `ARG` (R44). -/
theorem setArgByte_eq_self {arg : Word} {off : Offset} {v : Byte} (h : ¬ off ≤ 0x3#4) :
    setArgByte arg off v = arg := by
  have h0 : off ≠ 0x0#4 := by rintro rfl; exact h (by decide)
  have h1 : off ≠ 0x1#4 := by rintro rfl; exact h (by decide)
  have h2 : off ≠ 0x2#4 := by rintro rfl; exact h (by decide)
  have h3 : off ≠ 0x3#4 := by rintro rfl; exact h (by decide)
  simp [setArgByte, h0, h1, h2, h3]

/-- A step that changes `ARG` is a host write at offset 0 to 3 (R23, R44). -/
theorem stepForm_arg {s t : State} (h : StepForm s t) (hne : t.arg ≠ s.arg) :
    s.hostTurn ∧ ∃ off v rest, s.script = .write 1 off v :: rest ∧ off ≤ 0x3#4 := by
  cases h with
  | hostWrite hh hl _ =>
    refine ⟨hh, _, _, _, hl, ?_⟩
    by_contra hgt
    simp [setArgByte_eq_self hgt] at hne
  | _ => simp at hne

/-- A step that changes `OP` or `STATUS.ERR` is a host write at offset 4 (R24, R26, R56). -/
theorem stepForm_op_err {s t : State} (h : StepForm s t) (hne : t.op ≠ s.op ∨ t.err ≠ s.err) :
    s.hostTurn ∧ ∃ v rest, s.script = .write 1 0x4#4 v :: rest := by
  cases h with
  | hostIssue hh hl _ => exact ⟨hh, _, _, hl⟩
  | hostError hh hl _ => exact ⟨hh, _, _, hl⟩
  | _ => simp at hne

/-- A step that changes `RESULT` is a completion (R25, R58). -/
theorem stepForm_result {s t : State} (h : StepForm s t) (hne : t.result ≠ s.result) :
    s.seqTurn ∧ t.seqState = .idle := by
  cases h with
  | complete hs _ _ _ => exact ⟨hs, by simp⟩
  | _ => simp at hne

/-- A step that ends `BUSY` is a completion (R27, R58). -/
theorem stepForm_ends_busy {s t : State} (h : StepForm s t) (hb : s.seqState = .busy) (hi : t.seqState = .idle) :
    s.seqTurn ∧ t.trace = s.trace ++ [.done t.result] := by
  cases h with
  | complete hs _ _ _ => exact ⟨hs, by simp⟩
  | _ => simp [hb] at hi

/-- No step changes the parameters (log entry 6). -/
theorem stepForm_params {s t : State} (h : StepForm s t) : t.params = s.params := by
  cases h <;> simp

/-- Settles O49, register by register over the forms of a step. -/
theorem registerWriters : Obligations.RegisterWriters := by
  intro s t h
  have hf := stepForm_of_step h
  exact ⟨stepForm_arg hf, stepForm_op_err hf, stepForm_result hf, stepForm_ends_busy hf, stepForm_params hf⟩

/-- Settles O50: of all steps only the host's own write and a micro-op touch `IE`, and of the micro-ops only
`IRQ_OFF` and `IRQ_ON`, which stand first and last in byte operations. -/
theorem interruptEnableWriters : Obligations.InterruptEnableWriters := by
  intro s t h hne
  cases stepForm_of_step h with
  | hostSetIe hh hl => exact .inl ⟨hh, _, _, hl⟩
  | @micro i μ m hs hc hp hm =>
    have hirq : m = .irqOff ∨ m = .irqOn := (runMicro_ie m s.tickChosen).resolve_left (by simpa using hne)
    obtain ⟨hi, hu⟩ := irqOff_irqOn_index hp hm hirq
    exact .inr ⟨hs, i, μ, hc, hi, hp, hu⟩
  | _ => simp at hne

/-- Settles O53, form by form: the host's write of `OP` and a waking ISR append two events, a hold and a host with
nothing to do none, every other step one. -/
theorem traceOnlyGrows : Obligations.TraceOnlyGrows := by
  intro s t h
  cases stepForm_of_step h with
  | tick _ => exact ⟨[.tick], by simp⟩
  | isr _ =>
    refine ⟨if s.asleep then [.isr, .wake] else [.isr], by simp [State.takeIsr_trace], ?_⟩
    split <;> simp
  | @micro i μ m _ _ _ _ =>
    rcases runMicro_trace m s.tickChosen with ⟨e, he⟩ | hhold
    · exact ⟨[e], by simp [he]⟩
    · exact ⟨[], by simp [hhold]⟩
  | @complete i μ _ _ _ _ => exact ⟨[.done (i.resultOf s.tickChosen)], by simp⟩
  | hostDone _ _ => exact ⟨[], by simp⟩
  | @hostRead off rest _ _ => exact ⟨[.rd off], by simp⟩
  | @hostWrite off v rest _ _ _ => exact ⟨[.wr off v], by simp⟩
  | @hostIssue v rest i _ _ _ => exact ⟨[.wr 0x4#4 v, .cmd i.opcode i.argument], by simp⟩
  | @hostError v rest e _ _ _ => exact ⟨[.wr 0x4#4 v, .err (errCode e)], by simp⟩
  | @hostSetIe v rest _ _ => exact ⟨[.irq v], by simp⟩

/-- Settles O7: each value is the field of `State.reset`. -/
theorem resetValues : Obligations.ResetValues := by
  unfold Obligations.ResetValues
  and_intros <;> rfl

/-- The host's step with an action left. -/
theorem hostStep_cons {s : State} {a : HostAction} {rest : List HostAction} (h : s.script = a :: rest) :
    hostStep s = hostAct a { s with script := rest } := by
  simp [hostStep, h]

/-- Settles O13: the host's step is its next action, the write of `IE`. -/
theorem hostSetsInterruptEnable : Obligations.HostSetsInterruptEnable := by
  intro s v rest hh hl
  have hl' : s.tickChosen.script = .setIe v :: rest := by simpa using hl
  rw [step_host hh, hostStep_cons hl']
  simp [hostAct, State.setIe, State.emit]

/-- Idle, awake, with no period programmed and nothing pending, every clause of the invariant has a false premise. -/
theorem inv_of_idle_awake_stopped {s : State} (hs : s.seqState = .idle) (ha : s.asleep = false)
    (hper : s.pitPeriod = none) (hpend : s.pitPend = false) : s.Inv := by
  have hb : s.seqState ≠ .busy := by simp [hs]
  have hrun : s.pitRunning ≠ true := by simp [State.pitRunning, hper]
  refine ⟨fun h => absurd h hb, fun h => ?_, fun h => absurd h hb,
    ⟨fun h => absurd hper h, fun h => ?_, fun h => absurd h hb⟩, fun h => absurd h hrun, fun h => absurd h hb⟩
  · simp [ha] at h
  · simp [hpend] at h

/-- Settles O56: reset is idle, awake and without a timer. -/
theorem invariantAtReset : Obligations.InvariantAtReset :=
  inv_of_idle_awake_stopped rfl rfl rfl rfl

end Sys2Proof.Machine
end

section
/-! SUPPORT. What a word that decodes says of its command: the opcode and the argument are the word's. -/

namespace Sys2Proof.Machine

/-- A word whose bits from n up are 0 is its low n bits. -/
theorem setWidth_extractLsb'_low {w n : Nat} {x : BitVec w} (hn : n ≤ w)
    (h : x.extractLsb' n (w - n) = 0#(w - n)) : (x.extractLsb' 0 n).setWidth w = x := by
  ext k hk
  have hbit : ∀ j, n ≤ j → j < w → x.getLsbD j = false := fun j hj hjw => by
    have := congrArg (·.getLsbD (j - n)) h
    simpa [show j - n < w - n by omega, show n + (j - n) = j by omega] using this
  by_cases hkn : k < n
  · simp [hk, hkn, BitVec.getLsbD_eq_getElem]
  · simp [hk, hkn, ← BitVec.getLsbD_eq_getElem, hbit k (by omega) hk]

theorem ofBool_getLsbD_zero (x : Word) : BitVec.ofBool (x.getLsbD 0) = x.extractLsb' 0 1 := by
  ext k hk
  obtain rfl : k = 0 := by omega
  simp

/-- A word that decodes carries the opcode and the argument of its command (R60, R62, R63). -/
theorem opcode_argument_of_decode {mode : SleepZeroMode} {op : Byte} {arg : Word} {i : Instr}
    (h : decode mode op arg = .ok i) : i.opcode = op ∧ i.argument = arg := by
  unfold decode at h
  repeat' split at h
  all_goals cases h -- leaves the nine accepted rows of R63
  all_goals refine ⟨Eq.symm ‹op = _›, ?_⟩
  any_goals rfl
  any_goals (symm; assumption)
  · exact setWidth_extractLsb'_low (by decide) ‹arg.extractLsb' 8 24 = _›
  · rw [Instr.argument, ofBool_getLsbD_zero]
    exact setWidth_extractLsb'_low (by decide) ‹arg.extractLsb' 1 31 = _›

end Sys2Proof.Machine
end

section
/-! SUPPORT. Which micro-ops write the fields the invariant speaks of, and where those micro-ops stand. -/

namespace Sys2Proof.Machine

/-- Which micro-ops write each field of the timer and of the sleep unit (R110 to R119). -/
structure SleepUnitWriters (m : MicroOp) (s : State) : Prop where
  asleep : (runMicro m s).asleep = s.asleep ∨ m = .slpWait
  pitClksel : (runMicro m s).pitClksel = s.pitClksel ∨ m = .pitClk
  pitIe : (runMicro m s).pitIe = s.pitIe ∨ m = .pitIeSet
  pitPeriod : (runMicro m s).pitPeriod = s.pitPeriod ∨ ∃ k, m = .pitPer k
  slpEn : (runMicro m s).slpEn = s.slpEn ∨ m = .slpEnable
  adcEn : (runMicro m s).adcEn = s.adcEn ∨ m = .adcOff ∨ m = .adcOn
  slpMode : (runMicro m s).slpMode = s.slpMode ∨ m = .smodePd

theorem runMicro_sleepUnitWriters (m : MicroOp) (s : State) : SleepUnitWriters m s := by
  cases m with
  | msWait d => constructor <;> simp [runMicro_msWait]
  | msPoll d => constructor <;> simp [runMicro_msPoll]
  | pitSync => constructor <;> simp [runMicro_pitSync]
  | slpWait => constructor <;> simp [runMicro_slpWait]
  | pitClk | pitIeSet | pitPer | slpEnable | adcOff | adcOn | smodePd =>
    constructor <;> simp [runMicro_pitClk, runMicro_pitIeSet, runMicro_pitPer, runMicro_slpEnable, runMicro_adcOff,
      runMicro_adcOn, runMicro_smodePd]
  | _ => exact ⟨.inl rfl, .inl rfl, .inl rfl, .inl rfl, .inl rfl, .inl rfl, .inl rfl⟩

/-- `UPC` stays or moves on by one (R28). -/
theorem runMicro_upc (m : MicroOp) (s : State) :
    (runMicro m s).upc = s.upc ∨ (runMicro m s).upc = s.upc + 1 := by
  cases m with
  | msWait d => rw [runMicro_msWait]; exact (ite_eq_or_eq _ _ _).symm
  | pitSync => rw [runMicro_pitSync]; exact ite_eq_or_eq _ _ _
  | slpWait => exact .inl (by rw [runMicro_slpWait])
  | _ => exact .inr (runMicro_straight_upc rfl)

theorem sleepProgram_length (k : Nat) : (sleepProgram k).length = k + 3 := by
  simp [sleepProgram]

/-- The micro-op at each index of `SLEEP` (R121). -/
theorem sleepProgram_getElem? (k u : Nat) : (sleepProgram k)[u]? =
    if u = 0 then some .adcOff else if u = 1 then some .smodePd else if u < k + 2 then some .slpWait
    else if u = k + 2 then some .adcOn else none := by
  rcases u with _ | _ | u
  · rfl
  · rfl
  · simp only [sleepProgram, List.cons_append, List.nil_append, List.getElem?_cons_succ, List.getElem?_append,
      List.length_replicate, List.getElem?_replicate]
    by_cases hlt : u < k
    · simp [hlt]
    · by_cases hk : u = k
      · simp [hk]
      · have hlast : ¬ u - k < 1 := by omega
        simp [hlt, hk, hlast]

theorem sleepProgram_slpWait_iff {k u : Nat} : (sleepProgram k)[u]? = some .slpWait ↔ 2 ≤ u ∧ u < k + 2 := by
  rw [sleepProgram_getElem?]
  grind

theorem sleepProgram_adcOn_iff {k u : Nat} : (sleepProgram k)[u]? = some .adcOn ↔ u = k + 2 := by
  rw [sleepProgram_getElem?]
  grind

/-- `SLP_WAIT` stands at the cycles of a `SLEEP` and nowhere else (R121). -/
theorem slpWait_index {i : Instr} {p : Params} {μ : List MicroOp} {u : Nat} (hp : i.program p = some μ)
    (hu : μ[u]? = some .slpWait) : ∃ n k, i = .sleep n ∧ cycles p n = some k ∧ 2 ≤ u ∧ u < k + 2 := by
  have hmem := List.mem_of_getElem? hu
  cases i with
  | sleep n =>
    obtain ⟨k, hk, rfl⟩ := Option.map_eq_some_iff.mp hp
    exact ⟨n, k, rfl, hk, sleepProgram_slpWait_iff.mp hu⟩
  | i2cWriteByte _ | i2cReadByte _ =>
    obtain ⟨body, rfl, hbody⟩ := masksIrq_program rfl hp
    have hbus : MicroOp.slpWait ∈ body := by simpa using hmem
    cases List.all_eq_true.mp hbody _ hbus
  | _ =>
    cases hp
    simp [delayBlockingProgram, delayPollProgram, i2cInitProgram, i2cStartProgram, i2cStopProgram,
      sleepConfigProgram] at hmem

end Sys2Proof.Machine
end

section
/-! SUPPORT. Every form of step keeps the invariant: the idle forms through `inv_iff_of_idle`, the micro-ops clause by
clause. -/

namespace Sys2Proof.Machine

/-! ### The current command -/

theorem current_iff {s : State} {i : Instr} :
    s.current = some i ↔ decode s.params.sleepZero s.curOp s.curArg = .ok i := by
  unfold State.current
  split <;> simp_all

@[simp] theorem runMicro_current (m : MicroOp) (s : State) : (runMicro m s).current = s.current := by
  simp [State.current]
@[simp] theorem State.tickChosen_current (s : State) : s.tickChosen.current = s.current := by
  simp [State.current]
@[simp] theorem State.takeIsr_current (s : State) : s.takeIsr.current = s.current := by
  simp [State.current]
@[simp] theorem State.tick_current (s : State) : s.tick.current = s.current := rfl

/-! ### The idle sequencer -/

/-- What the invariant says of the timer while no command runs. -/
def State.timerOk (s : State) : Prop :=
  (s.pitPeriod ≠ none → s.pitClksel = .lowfreqInternal ∧ s.pitIe = true) ∧
  (s.pitPend = true → s.pitRunning = true) ∧ (s.pitRunning = true → s.slpEn = true)

/-- With the sequencer idle the invariant says that it is awake and the timer's fields agree. -/
theorem State.inv_iff_of_idle {s : State} (hs : s.seqState = .idle) : s.Inv ↔ s.asleep = false ∧ s.timerOk := by
  simp [Inv, seqOk, asleepOk, criticalOk, pitOk, slpEnOk, sleepOk, timerOk, hs, and_assoc]

@[simp] theorem State.tickChosen_inv (s : State) : s.tickChosen.Inv ↔ s.Inv := by
  simp [Inv, seqOk, asleepOk, criticalOk, pitOk, slpEnOk, sleepOk]

/-- The issue of a command starts its micro-program with no clause on `UPC` in force (R56). -/
theorem State.issue_inv {s : State} {i : Instr} (hinv : s.Inv) (hs : s.seqState = .idle)
    (hd : decode s.params.sleepZero i.opcode i.argument = .ok i) : (s.issue i.opcode i.argument).Inv := by
  obtain ⟨hawake, hper, hpend, hslp⟩ := (inv_iff_of_idle hs).mp hinv
  obtain ⟨μ, hp⟩ := program_of_decode hd
  refine ⟨fun _ => ⟨i, μ, current_iff.mpr hd, hp, Nat.zero_le _⟩, fun h => ?_, fun _ _ _ _ _ _ h => ?_,
    ⟨hper, hpend, fun _ _ _ => ⟨fun h => ?_, fun h => ?_⟩⟩, fun h => .inl (hslp h),
    fun _ _ _ _ _ => ⟨fun h => ?_, fun h => ?_⟩⟩
  · simp [hawake] at h
  all_goals simp at h

/-- At the end of a micro-program the sequencer is awake, and no `SLEEP_CONFIG` is at its last micro-ops. -/
theorem State.complete_inv {s : State} {i : Instr} {μ : List MicroOp} (r : Word) (hinv : s.Inv)
    (hc : s.current = some i) (hp : i.program s.params = some μ) (hu : s.upc = μ.length) : (s.complete r).Inv := by
  obtain ⟨-, hasleep, -, ⟨hper, hpend, -⟩, hslp, -⟩ := hinv
  refine (inv_iff_of_idle rfl).mpr ⟨?_, hper, hpend, fun hrun => ?_⟩
  · by_contra hne
    obtain ⟨-, n, k, hcn, hk, -, hlt⟩ := hasleep (by simpa using hne)
    obtain rfl : i = .sleep n := by simpa [hc] using hcn
    obtain rfl : sleepProgram k = μ := by simpa [Instr.program, hk] using hp
    rw [sleepProgram_length] at hu
    omega
  · rcases hslp hrun with h | ⟨-, x, hcx, -, hle⟩
    · exact h
    · obtain rfl : i = .sleepConfig x := by simpa [hc] using hcx
      cases hp
      simp [sleepConfigProgram] at hu
      omega

/-- The tick sets the pending condition of a running timer (R131). -/
theorem State.tick_inv {s : State} (hinv : s.Inv) (hrun : s.pitRunning = true) : s.tick.Inv := by
  obtain ⟨hseq, hasleep, hcrit, ⟨hper, -, hcfg⟩, hslp, hsleep⟩ := hinv
  exact ⟨hseq, hasleep, hcrit, ⟨hper, fun _ => hrun, hcfg⟩, hslp, hsleep⟩

theorem State.clearPend_inv {s : State} (hinv : s.Inv) : s.clearPend.Inv := by
  obtain ⟨hseq, hasleep, hcrit, ⟨hper, -, hcfg⟩, hslp, hsleep⟩ := hinv
  exact ⟨hseq, hasleep, hcrit, ⟨hper, fun h => (by cases h), hcfg⟩, hslp, hsleep⟩

/-- The wake moves past an `SLP_WAIT`, to the next cycle or to `ADC_ON` (R136). -/
theorem State.wake_inv {s : State} (hinv : s.Inv) (ha : s.asleep = true) : s.wake.Inv := by
  obtain ⟨hseq, hasleep, hcrit, ⟨hper, hpend, hcfg⟩, hslp, hsleep⟩ := hinv
  obtain ⟨hb, n, k, hc, hk, h2, hlt⟩ := hasleep ha
  have hcur : s.wake.current = some (.sleep n) := hc
  have hcycles : cycles s.wake.params n = some k := hk
  refine ⟨fun _ => ⟨.sleep n, sleepProgram k, hcur, by simp [Instr.program, hcycles], ?_⟩, fun h => (by cases h),
    fun _ i μ hci hi => ?_, ⟨hper, hpend, fun _ x hcx => ?_⟩, fun hrun => ?_, fun _ n' k' hcn hk' => ?_⟩
  · rw [sleepProgram_length]
    show s.upc + 1 ≤ k + 3
    omega
  · obtain rfl : .sleep n = i := by simpa [hcur] using hci
    cases hi
  · simp [hcur] at hcx
  · rcases hslp hrun with h | ⟨-, x, hcx, -⟩
    · exact .inl h
    · simp [hc] at hcx
  · obtain ⟨hadc, hmode⟩ := hsleep hb n' k' hcn hk'
    obtain rfl : n = n' := by simpa [hcur] using hcn
    obtain rfl : k = k' := by simpa [hcycles] using hk'
    exact ⟨fun _ _ => hadc (by omega) (by omega), fun _ => hmode h2⟩

theorem State.takeIsr_inv {s : State} (hinv : s.Inv) : s.takeIsr.Inv := by
  unfold takeIsr
  split
  · exact wake_inv (clearPend_inv hinv) ‹_›
  · exact clearPend_inv hinv

/-! ### A micro-op keeps each clause -/

section Micro

variable {s : State} {i : Instr} {μ : List MicroOp} {m : MicroOp}

theorem runMicro_seqOk (hc : s.current = some i) (hp : i.program s.params = some μ) (hm : μ[s.upc]? = some m) :
    (runMicro m s).seqOk := by
  intro _
  have hlt := (List.getElem?_eq_some_iff.mp hm).1
  refine ⟨i, μ, by simpa using hc, by simpa using hp, ?_⟩
  rcases runMicro_upc m s with hu | hu <;> omega

/-- A sleeping sequencer is at an `SLP_WAIT`, which holds; only an `SLP_WAIT` puts one to sleep (R118). -/
theorem runMicro_asleepOk (hinv : s.asleepOk) (hb : s.seqState = .busy) (hc : s.current = some i)
    (hp : i.program s.params = some μ) (hm : μ[s.upc]? = some m) : (runMicro m s).asleepOk := by
  intro ha
  have hwait : m = .slpWait := by
    rcases (runMicro_sleepUnitWriters m s).asleep with heq | hwait
    · obtain ⟨-, n, k, hcn, hk, h2, hlt⟩ := hinv (heq ▸ ha)
      obtain rfl : i = .sleep n := by simpa [hc] using hcn
      obtain rfl : sleepProgram k = μ := by simpa [Instr.program, hk] using hp
      simpa [sleepProgram_slpWait_iff.mpr ⟨h2, hlt⟩] using hm.symm
    · exact hwait
  subst hwait
  obtain ⟨n, k, rfl, hk, h2, hlt⟩ := slpWait_index hp hm
  have hu : (runMicro .slpWait s).upc = s.upc := by rw [runMicro_slpWait]
  exact ⟨by simpa using hb, n, k, by simpa using hc, by simpa using hk, by omega, by omega⟩

/-- `IRQ_OFF` clears `IE`, and nothing before `IRQ_ON` sets it (R103, R104). -/
theorem runMicro_criticalOk (hinv : s.criticalOk) (hb : s.seqState = .busy) (hc : s.current = some i)
    (hp : i.program s.params = some μ) (hm : μ[s.upc]? = some m) : (runMicro m s).criticalOk := by
  intro _ i' μ' hc' hi hp' hpos hlt
  obtain rfl : i = i' := by simpa [hc] using hc'
  obtain rfl : μ = μ' := by simpa [hp] using hp'
  rcases Nat.eq_zero_or_pos s.upc with h0 | hpos'
  · obtain ⟨body, rfl, -⟩ := masksIrq_program hi hp
    obtain rfl : .irqOff = m := by simpa [h0] using hm
    rfl
  · rcases runMicro_ie m s with heq | rfl | rfl
    · rw [heq]
      exact hinv hb i μ hc hi hp hpos' (List.getElem?_eq_some_iff.mp hm).1
    · rfl
    · obtain ⟨-, h0 | hlast⟩ := irqOff_irqOn_index hp hm (.inr rfl)
      · omega
      · exact absurd hlt (by simp [runMicro_irqOn, hlast])

/-- `SLEEP_CONFIG` selects the clock and sets `PIT_IE` before it programs a period (R120), and no micro-op undoes
them. -/
theorem runMicro_pitOk (hinv : s.pitOk) (hb : s.seqState = .busy) (hc : s.current = some i)
    (hp : i.program s.params = some μ) (hm : μ[s.upc]? = some m) : (runMicro m s).pitOk := by
  obtain ⟨hper, hpend, hcfg⟩ := hinv
  have hclk : s.pitClksel = .lowfreqInternal → (runMicro m s).pitClksel = .lowfreqInternal := by
    rcases (runMicro_sleepUnitWriters m s).pitClksel with heq | rfl
    · exact heq.trans
    · exact fun _ => rfl
  have hie : s.pitIe = true → (runMicro m s).pitIe = true := by
    rcases (runMicro_sleepUnitWriters m s).pitIe with heq | rfl
    · exact heq.trans
    · exact fun _ => rfl
  refine ⟨fun hne => ?_, fun h => ?_, fun _ x hcx => ?_⟩
  · rcases (runMicro_sleepUnitWriters m s).pitPeriod with heq | ⟨k, rfl⟩
    · obtain ⟨h1, h2⟩ := hper (heq ▸ hne)
      exact ⟨hclk h1, hie h2⟩
    · obtain ⟨hu, x, rfl⟩ := pitPer_index hp hm
      obtain ⟨h1, h2⟩ := hcfg hb x hc
      exact ⟨hclk (h1 (by omega)), hie (h2 (by omega))⟩
  · exact runMicro_keeps_pitRunning m (hpend (by simpa using h))
  · rw [runMicro_current] at hcx
    obtain rfl : i = .sleepConfig x := by simpa [hc] using hcx
    cases hp
    obtain ⟨h1, h2⟩ := hcfg hb x hc
    have hup := runMicro_upc m s
    refine ⟨fun hle => ?_, fun hle => ?_⟩
    · rcases Nat.eq_zero_or_pos s.upc with h0 | hpos
      · obtain rfl : .pitClk = m := by simpa [h0, sleepConfigProgram] using hm
        rfl
      · exact hclk (h1 hpos)
    · rcases Nat.lt_or_ge s.upc 3 with hlt | hge
      · obtain rfl : .pitIeSet = m := by
          simpa [show s.upc = 2 by omega, sleepConfigProgram] using hm
        rfl
      · exact hie (h2 hge)

/-- From `PIT_PER` on, only `PULLUPS_ON` stands before `SLP_ENABLE` (R120). -/
theorem runMicro_slpEnOk (hinv : s.slpEnOk) (hpit : s.pitOk) (hb : s.seqState = .busy) (hc : s.current = some i)
    (hp : i.program s.params = some μ) (hm : μ[s.upc]? = some m) : (runMicro m s).slpEnOk := by
  intro hrun
  cases h0 : s.pitRunning with
  | false =>
    obtain ⟨k, rfl⟩ := pitPer_of_starts (fun hne => (hpit.1 hne).1) h0 hrun
    obtain ⟨hu, x, rfl⟩ := pitPer_index hp hm
    exact .inr ⟨hb, x, by simpa using hc, by simp [runMicro_pitPer, hu], by simp [runMicro_pitPer, hu]⟩
  | true =>
    rcases hinv h0 with hen | ⟨-, x, hcx, h4, h5⟩
    · rcases (runMicro_sleepUnitWriters m s).slpEn with heq | rfl
      · exact .inl (heq.trans hen)
      · exact .inl rfl
    · obtain rfl : i = .sleepConfig x := by simpa [hc] using hcx
      cases hp
      rcases Nat.lt_or_ge s.upc 5 with hlt | hge
      · have hu : s.upc = 4 := by omega
        obtain rfl : .pullupsOn = m := by simpa [hu, sleepConfigProgram] using hm
        exact .inr ⟨hb, x, by simpa using hc, by simp [runMicro_pullupsOn, hu], by simp [runMicro_pullupsOn, hu]⟩
      · obtain rfl : .slpEnable = m := by simpa [show s.upc = 5 by omega, sleepConfigProgram] using hm
        exact .inl rfl

/-- `ADC_OFF` and `SMODE_PD` stand before the cycles of a `SLEEP`, `ADC_ON` after them (R121). -/
theorem runMicro_sleepOk (hinv : s.sleepOk) (hb : s.seqState = .busy) (hc : s.current = some i)
    (hp : i.program s.params = some μ) (hm : μ[s.upc]? = some m) : (runMicro m s).sleepOk := by
  intro _ n k hcn hk
  rw [runMicro_params] at hk
  obtain rfl : i = .sleep n := by simpa [hc] using hcn
  obtain rfl : sleepProgram k = μ := by simpa [Instr.program, hk] using hp
  obtain ⟨hadc, hmode⟩ := hinv hb n k hc hk
  have hup := runMicro_upc m s
  refine ⟨fun hle hle' => ?_, fun hle => ?_⟩
  · rcases Nat.eq_zero_or_pos s.upc with h0 | hpos
    · obtain rfl : .adcOff = m := by simpa [h0, sleepProgram] using hm
      rfl
    · rcases (runMicro_sleepUnitWriters m s).adcEn with heq | rfl | rfl
      · exact heq.trans (hadc hpos (by omega))
      · rfl
      · simp [runMicro_adcOn, sleepProgram_adcOn_iff.mp hm] at hle'
  · rcases Nat.lt_or_ge s.upc 2 with hlt | hge
    · obtain rfl : .smodePd = m := by simpa [show s.upc = 1 by omega, sleepProgram] using hm
      rfl
    · rcases (runMicro_sleepUnitWriters m s).slpMode with heq | rfl
      · exact heq.trans (hmode hge)
      · rfl

theorem runMicro_inv (hinv : s.Inv) (hb : s.seqState = .busy) (hc : s.current = some i)
    (hp : i.program s.params = some μ) (hm : μ[s.upc]? = some m) : (runMicro m s).Inv := by
  obtain ⟨-, hasleep, hcrit, hpit, hslp, hsleep⟩ := hinv
  exact ⟨runMicro_seqOk hc hp hm, runMicro_asleepOk hasleep hb hc hp hm, runMicro_criticalOk hcrit hb hc hp hm,
    runMicro_pitOk hpit hb hc hp hm, runMicro_slpEnOk hslp hpit hb hc hp hm, runMicro_sleepOk hsleep hb hc hp hm⟩

end Micro

/-- Settles O57, form by form of a step: at the host's turn the invariant speaks of the timer and of `ASLEEP` only,
which no host action touches. -/
theorem invariantKeptByEveryStep : Obligations.InvariantKeptByEveryStep := by
  intro s t hinv h
  rw [← State.tickChosen_inv] at hinv
  cases stepForm_of_step h with
  | tick ht => exact State.tick_inv hinv (by simp_all [State.ticksNow])
  | isr _ => exact State.takeIsr_inv hinv
  | micro hs hc hp hm =>
    exact runMicro_inv hinv (by simpa using hs.2.2) (by simpa using hc) (by simpa using hp) (by simpa using hm)
  | complete hs hc hp hu =>
    exact State.complete_inv _ hinv (by simpa using hc) (by simpa using hp) (by simpa using hu)
  | hostDone _ _ => exact hinv
  | @hostIssue v rest i hh hl hd =>
    have hidle := hh.2.2
    obtain ⟨hop, harg⟩ := opcode_argument_of_decode hd
    refine State.issue_inv ?_ (by simpa using hidle) (by simpa [hop, harg] using hd)
    rw [State.inv_iff_of_idle (by simpa using hidle)] at hinv ⊢
    simpa [State.timerOk, State.pitRunning] using hinv
  | hostRead hh | hostWrite hh | hostError hh | hostSetIe hh =>
    have hidle := hh.2.2
    rw [State.inv_iff_of_idle (by simpa using hidle)] at hinv ⊢
    simpa [State.timerOk, State.pitRunning] using hinv

end Sys2Proof.Machine
end

section
/-! SUPPORT. The host's turn: one rule per kind of access, and whose turn a step is. -/

namespace Sys2Proof.Machine

/-- A step is the tick's, the ISR's, the sequencer's or the host's (R18, R21). -/
theorem turn_cases (s : State) : s.ticksNow = true ∨ s.isrTurn ∨ s.seqTurn ∨ s.hostTurn := by
  cases ht : s.ticksNow with
  | true => exact .inl rfl
  | false =>
    cases hi : s.isrEnabled with
    | true => exact .inr (.inl ⟨ht, hi⟩)
    | false =>
      cases hs : s.seqState with
      | busy => exact .inr (.inr (.inl ⟨ht, hi, hs⟩))
      | idle => exact .inr (.inr (.inr ⟨ht, hi, hs⟩))

section HostTurn

variable {s : State} {rest : List HostAction}

/-- The host's step is its next action. -/
theorem step_hostAct {a : HostAction} (hh : s.hostTurn) (hl : s.script = a :: rest) :
    step s = hostAct a { s.tickChosen with script := rest } := by
  rw [step_host hh, hostStep_cons (by simpa using hl)]

theorem step_read {off : Offset} (hh : s.hostTurn) (hl : s.script = .read 1 off :: rest) :
    step s = .next ({ s.tickChosen with script := rest }.memRead off) := by
  rw [step_hostAct hh hl]; rfl

theorem step_write {off : Offset} {v : Byte} (hh : s.hostTurn) (hl : s.script = .write 1 off v :: rest)
    (hne : off ≠ 0x4#4) : step s = .next ({ s.tickChosen with script := rest }.memWrite off v) := by
  rw [step_hostAct hh hl]
  simp [hostAct, hne]

theorem step_writeOp_ok {v : Byte} {i : Instr} (hh : s.hostTurn) (hl : s.script = .write 1 0x4#4 v :: rest)
    (hd : decode s.params.sleepZero v s.arg = .ok i) :
    step s = exec i ({ s.tickChosen with script := rest }.writeOp v) := by
  rw [step_hostAct hh hl]
  simp [hostAct, hostIssue, hd]

theorem step_writeOp_error {v : Byte} {e : CmdError} (hh : s.hostTurn) (hl : s.script = .write 1 0x4#4 v :: rest)
    (hd : decode s.params.sleepZero v s.arg = .error e) :
    step s = .next (({ s.tickChosen with script := rest }.writeOp v).raiseCmdError e) := by
  rw [step_hostAct hh hl]
  simp [hostAct, hostIssue, hd]

end HostTurn

end Sys2Proof.Machine
end

section
/-! SUPPORT. The register window byte by byte: byte k of a word, and what a write at an offset makes of each. -/

namespace Sys2Proof.Machine

theorem toNat_byte (x : Word) (k : Nat) : (x.extractLsb' (8 * k) 8).toNat = x.toNat / 2 ^ (8 * k) % 256 := by
  rw [BitVec.extractLsb'_toNat, Nat.shiftRight_eq_div_pow]

/-- Bit j of `ARG` after a write at an offset 0 to 3: the written byte's within that byte, else the old one (R44). -/
theorem getLsbD_setArgByte (arg : Word) {off : Offset} (v : Byte) (hoff : off ≤ 0x3#4) (j : Nat) :
    (setArgByte arg off v).getLsbD j =
      if 8 * off.toNat ≤ j ∧ j < 8 * off.toNat + 8 then v.getLsbD (j - 8 * off.toNat) else arg.getLsbD j := by
  have hcases : off = 0x0#4 ∨ off = 0x1#4 ∨ off = 0x2#4 ∨ off = 0x3#4 := by bv_omega
  have hv : ∀ b, 8 ≤ b → v.getLsbD b = false := fun b hb => BitVec.getLsbD_of_ge v b hb
  have ha : ∀ b, 32 ≤ b → arg.getLsbD b = false := fun b hb => BitVec.getLsbD_of_ge arg b hb
  rcases hcases with rfl | rfl | rfl | rfl <;>
    simp only [setArgByte, BitVec.getLsbD_append, BitVec.getLsbD_extractLsb', BitVec.reduceEq, if_true, if_false,
      BitVec.toNat_ofNat] <;>
    grind

/-- Byte k of `ARG` after a write (R44). -/
theorem byte_setArgByte (arg : Word) (off : Offset) (v : Byte) {k : Nat} (hk : k < 4) :
    (setArgByte arg off v).extractLsb' (8 * k) 8 = if off.toNat = k then v else arg.extractLsb' (8 * k) 8 := by
  by_cases hoff : off ≤ 0x3#4
  · ext j hj
    rw [BitVec.getElem_extractLsb', getLsbD_setArgByte arg v hoff]
    grind
  · rw [setArgByte_eq_self hoff, if_neg (by bv_omega)]

/-- Four bytes make a word. -/
theorem eq_of_bytes {a b : Word} (h : ∀ k < 4, a.extractLsb' (8 * k) 8 = b.extractLsb' (8 * k) 8) : a = b := by
  ext j hj
  have := congrArg (·.getLsbD (j % 8)) (h (j / 8) (by omega))
  simpa [Nat.mod_lt, Nat.div_add_mod, BitVec.getLsbD_eq_getElem hj] using this

/-- The byte at each offset, in arithmetic form (R42, R43). -/
theorem windowRead_toNat (s : State) (off : Offset) : (s.windowRead off).toNat =
    if off.toNat ≤ 3 then s.arg.toNat / 2 ^ (8 * off.toNat) % 256
    else if off.toNat = 4 then s.op.toNat
    else if off.toNat = 5 then s.err.toNat
    else if 8 ≤ off.toNat ∧ off.toNat ≤ 11 then s.result.toNat / 2 ^ (8 * (off.toNat - 8)) % 256
    else 0 := by
  have herr : s.err.toNat < 256 := by omega
  obtain ⟨⟨u, hu⟩⟩ := off
  interval_cases u <;> simp [State.windowRead, State.status, Nat.shiftRight_eq_div_pow, herr]

end Sys2Proof.Machine
end

section
/-! SUPPORT. Runs of host writes below offset 4, and what of a step can be refused. -/

namespace Sys2Proof.Machine

/-- `ARG` after a list of writes, in order. -/
def setArgBytes (arg : Word) (ws : List (Offset × Byte)) : Word := ws.foldl (fun a w => setArgByte a w.1 w.2) arg

/-- The bytes of a word with their offsets, least significant first (R42, R45). -/
def wordWrites (x : Word) : List (Offset × Byte) :=
  [(0x0#4, x.extractLsb' 0 8), (0x1#4, x.extractLsb' 8 8), (0x2#4, x.extractLsb' 16 8), (0x3#4, x.extractLsb' 24 8)]

/-- Each write puts its byte and keeps the others', so the four leave the word, whatever `ARG` was. -/
theorem setArgBytes_wordWrites (arg x : Word) : setArgBytes arg (wordWrites x) = x := by
  refine eq_of_bytes fun k hk => ?_
  simp only [setArgBytes, wordWrites, List.foldl, byte_setArgByte _ _ _ hk]
  interval_cases k <;> rfl

/-- With the timer stopped, no ISR and the sequencer idle, the host makes its next writes one step each. -/
theorem stepRun_writes (ws : List (Offset × Byte)) {s : State} {rest : List HostAction} (hidle : s.seqState = .idle)
    (hrun : s.pitRunning = false) (hisr : s.isrEnabled = false) (hws : ∀ w ∈ ws, w.1 ≠ 0x4#4)
    (hl : s.script = ws.map (fun w => .write 1 w.1 w.2) ++ rest) :
    stepRun ws.length s = .next { s with
      arg := setArgBytes s.arg ws, script := rest, trace := s.trace ++ ws.map (fun w => .wr w.1 w.2) } := by
  induction ws generalizing s with
  | nil =>
    obtain rfl : s.script = rest := hl
    simp [stepRun, setArgBytes]
  | cons w ws ih =>
    have hturn : s.hostTurn := ⟨by simp [State.ticksNow, hrun], hisr, hidle⟩
    have hstep : step s = .next { s with
        arg := setArgByte s.arg w.1 w.2, script := ws.map (fun w => .write 1 w.1 w.2) ++ rest,
        trace := s.trace ++ [.wr w.1 w.2] } := by
      rw [step_write hturn hl (hws w (by simp)), tickChosen_of_stopped hrun]
      rfl
    refine ((stepRun_succ _ hstep).trans (ih hidle hrun hisr (fun x hx => hws x (by simp [hx])) rfl)).trans ?_
    simp [setArgBytes]

/-- No command's step is refused. -/
theorem exec_ne_refused (i : Instr) (s : State) (r : Refusal) : exec i s ≠ .refused r := by
  rw [exec_eq]
  cases i.program s.params with
  | none => cases hs : s.seqState <;> simp [sleepRefused, hs]
  | some μ =>
    cases hs : s.seqState with
    | idle => simp [commandStep, hs]
    | busy =>
      simp only [commandStep, hs, seqRun]
      split
      · simp
      · split <;> simp

theorem seqStep_ne_refused (s : State) (r : Refusal) : seqStep s ≠ .refused r := by
  unfold seqStep
  split
  · exact exec_ne_refused _ _ _
  · simp

theorem hostIssue_ne_refused (s : State) (v : Byte) (r : Refusal) : hostIssue s v ≠ .refused r := by
  unfold hostIssue
  split
  · exact exec_ne_refused _ _ _
  · simp

/-- An action is refused exactly for its width (R46). -/
theorem hostAct_refused_iff (a : HostAction) (s : State) (r : Refusal) :
    hostAct a s = .refused r ↔
      r = .accessWidth ∧ ∃ w : Nat, w ≠ 1 ∧ ((∃ off, a = .read w off) ∨ ∃ off v, a = .write w off v) := by
  cases a with
  | setIe v => simp [hostAct]
  | read w off =>
    by_cases hw : w = 1
    · simp [hostAct, hw]
    · simp [hostAct, hw, eq_comm]
  | write w off v =>
    by_cases hw : w = 1
    · by_cases hoff : off = 0x4#4
      · simp [hostAct, hw, hoff, hostIssue_ne_refused]
      · simp [hostAct, hw, hoff]
    · simp [hostAct, hw, eq_comm]

end Sys2Proof.Machine
end

section
/-! The statements about the host's accesses. -/

namespace Sys2Proof.Machine

/-- Settles O9, by the rule of a read and the window offset by offset. -/
theorem hostReadReturnsWindowByte : Obligations.HostReadReturnsWindowByte := by
  refine ⟨fun s off rest hh hl => ?_, windowRead_toNat⟩
  rw [step_read hh hl]
  simp [State.memRead, State.emit, State.windowRead, State.status]

/-- Settles O10: the write is `setArgByte`, read back byte by byte. -/
theorem hostWriteOfArgAndReadOnly : Obligations.HostWriteOfArgAndReadOnly := by
  intro s off v rest hh hl hne
  refine ⟨setArgByte s.arg off v, ?_, fun k hk => ?_, fun hle => setArgByte_eq_self (by bv_omega)⟩
  · rw [step_write hh hl hne]
    simp [State.memWrite, State.emit]
  · rw [← toNat_byte, ← toNat_byte, byte_setArgByte s.arg off v hk, apply_ite BitVec.toNat]

/-- Settles O11: the host makes the four writes, and they leave the word. -/
theorem windowIsLittleEndian : Obligations.WindowIsLittleEndian := by
  intro s x rest hidle hrun hisr hl
  have h := stepRun_writes (wordWrites x) hidle hrun hisr (by simp [wordWrites]) hl
  rwa [setArgBytes_wordWrites] at h

/-- Settles O12, agent by agent: neither the tick, the ISR nor a command is refused, and the host's action exactly
for its width. -/
theorem refusedExactlyForOtherWidths : Obligations.RefusedExactlyForOtherWidths := by
  intro s r
  constructor
  · intro h
    rcases turn_cases s with ht | hi | hs | hh
    · simp [step_tick ht] at h
    · simp [step_isr hi] at h
    · exact absurd (step_seq hs ▸ h) (seqStep_ne_refused _ _)
    · cases hl : s.script with
      | nil => simp [step_host hh, hostStep, hl] at h
      | cons a rest =>
        rw [step_hostAct hh hl, hostAct_refused_iff] at h
        obtain ⟨rfl, w, hw, ha⟩ := h
        exact ⟨rfl, hh, w, rest, hw, by simpa using ha⟩
  · rintro ⟨rfl, hh, w, rest, hw, ⟨off, hl⟩ | ⟨off, v, hl⟩⟩ <;> rw [step_hostAct hh hl, hostAct_refused_iff]
    · exact ⟨rfl, w, hw, .inl ⟨off, rfl⟩⟩
    · exact ⟨rfl, w, hw, .inr ⟨off, v, rfl⟩⟩

/-- Settles O14: a write of `OP` by its two rules; at a busy sequencer's step no form is the host's. -/
theorem writeOfOpIssuesOrErrs : Obligations.WriteOfOpIssuesOrErrs := by
  refine ⟨fun s v rest i hh hl hd => ?_, fun s v rest e hh hl hd => ?_, fun s t hb h => ?_⟩
  · obtain ⟨μ, hp⟩ := program_of_decode hd
    obtain ⟨rfl, harg⟩ := opcode_argument_of_decode hd
    rw [step_writeOp_ok hh hl hd, exec_idle (by simpa using hh.2.2) (by simpa using hp)]
    simp [State.issue, State.writeOp, State.emit, harg]
  · rw [step_writeOp_error hh hl hd]
    cases e <;> simp [State.raiseCmdError, State.writeOp, State.emit, errCode]
  · cases stepForm_of_step h with
    | tick _ | isr _ | micro _ _ _ _ | complete _ _ _ _ => simp
    | hostDone hh | hostRead hh | hostWrite hh | hostIssue hh | hostError hh | hostSetIe hh =>
      simp [hh.2.2] at hb

/-- Settles O15: the rule of an accepted write of `OP`, and the sequencer's step through the current command. -/
theorem stepRunsDecodedCommand : Obligations.StepRunsDecodedCommand := by
  refine ⟨fun s v rest i hh hl hd => ?_, fun s i hs hd => ?_⟩
  · rw [step_writeOp_ok hh hl hd]
    simp [State.writeOp, State.emit]
  · rw [step_seq hs, seqStep_current (by simpa using current_iff.mpr hd)]

end Sys2Proof.Machine
end

section
/-! The statements about a command's step: its issue, its completion, and that it always answers. -/

namespace Sys2Proof.Machine

/-- A well-formed command has a micro-program (R63, R122). -/
theorem program_of_wf {p : Params} {i : Instr} (h : i.wf p.sleepZero = true) : ∃ μ, i.program p = some μ := by
  cases i with
  | sleep n =>
    obtain ⟨k, hk⟩ := cycles_of_not_refused (p := p) (n := n) (by
      rintro ⟨rfl, hz⟩
      simp [Instr.wf, hz] at h)
    exact ⟨sleepProgram k, by simp [Instr.program, hk]⟩
  | _ => exact ⟨_, rfl⟩

/-- Settles O17: every well-formed command has a micro-program and is issued; the refused count has none. -/
theorem eachCommandIssues : Obligations.EachCommandIssues := by
  refine ⟨fun i s hs hwf => ?_, fun s hs hz => ?_⟩
  · obtain ⟨μ, hp⟩ := program_of_wf hwf
    rw [exec_idle hs hp, State.issue_eq]
  · have hp : (Instr.sleep 0#32).program s.params = none := by simp [Instr.program, cycles, hz]
    simp [exec_eq, hp, sleepRefused, hs, State.raiseCmdError, State.emit, errCode]

@[simp] theorem wbit_length (b : Bool) : (wbit b).length = 5 := by cases b <;> rfl
@[simp] theorem wlast_length (b : Bool) : (wlast b).length = 6 := by cases b <;> rfl

theorem i2cWriteByteProgram_length (d : Byte) : (i2cWriteByteProgram d).length = 47 := by
  simp [i2cWriteByteProgram, acks]

/-- Settles O18, command by command: the length of its micro-program, then completion's record. -/
theorem eachCommandCompletes : Obligations.EachCommandCompletes := by
  refine ⟨fun s ms hb hu => ?_, fun s ms hb hu => ?_, fun s hb hu => ?_, fun s hb hu => ?_, fun s hb hu => ?_,
    fun s d hb hu => ?_, fun s hb hu => ?_, fun s hb hu => ?_, fun s x hb hu => ?_, fun s n k hb hk hu => ?_,
    fun s hi => step_isr hi⟩
  · exact exec_done hb rfl hu
  · rw [exec_done (μ := delayPollProgram ms) hb rfl hu, State.complete_eq]
    cases hv : s.pollr <;> simp [Instr.resultOf, pollResult, hv]
  · exact exec_done hb rfl hu
  · exact exec_done hb rfl hu
  · exact exec_done hb rfl hu
  · rw [exec_done hb rfl (hu.trans (i2cWriteByteProgram_length d).symm), State.complete_eq]
    cases hv : s.ackv <;> simp [Instr.resultOf, ackResult, hv]
  · exact exec_done hb rfl hu
  · exact exec_done hb rfl hu
  · exact exec_done hb rfl hu
  · have hp : (Instr.sleep n).program s.params = some (sleepProgram k) := by simp [Instr.program, hk]
    exact exec_done hb hp (hu.trans (sleepProgram_length k).symm)

/-- Only the `SLP_WAIT` of a sleeping sequencer leaves the state as it is (R118). -/
theorem runMicro_eq_self_iff (m : MicroOp) (s : State) : runMicro m s = s ↔ m = .slpWait ∧ s.asleep = true := by
  constructor
  · intro h
    cases m with
    | slpWait =>
      refine ⟨rfl, ?_⟩
      simpa [runMicro_slpWait] using (congrArg State.asleep h).symm
    | msWait d => simpa [runMicro_msWait] using congrArg State.trace h
    | pitSync => simpa [runMicro_pitSync] using congrArg State.trace h
    | _ =>
      have hu := congrArg State.upc h
      rw [runMicro_straight_upc rfl] at hu
      omega
  · rintro ⟨rfl, ha⟩
    exact runMicro_slpWait_asleep ha

/-- Settles O19: issue and completion change `SEQ_STATE`, and of the micro-ops only the hold leaves the state. -/
theorem everyCommandAnswers : Obligations.EveryCommandAnswers := by
  rintro i μ s hp (hs | ⟨hb, hu⟩)
  · refine ⟨_, exec_idle hs hp, ?_⟩
    simp only [hs, reduceCtorEq, false_and, iff_false]
    exact fun h => by simpa [hs] using congrArg State.seqState h
  · rcases Nat.lt_or_eq_of_le hu with hlt | heq
    · have hm : μ[s.upc]? = some μ[s.upc] := List.getElem?_eq_getElem hlt
      refine ⟨_, exec_micro hb hp hm, ?_⟩
      rw [runMicro_eq_self_iff, hm]
      simp [hb]
    · refine ⟨_, exec_done hb hp heq, ?_⟩
      rw [heq, List.getElem?_length]
      simp only [reduceCtorEq, false_and, and_false, iff_false]
      exact fun h => by simpa [hb] using congrArg State.seqState h

/-- The placed command word is the host's next action, with neither a tick nor the ISR in the way (log entry 4). -/
theorem placeCommand_hostTurn (s : State) (cw : BitVec 40) : (placeCommand s cw).hostTurn := by
  have hrun : (placeCommand s cw).pitRunning = s.pitRunning := rfl
  refine ⟨?_, ?_, rfl⟩
  · cases h : s.pitRunning
    · simp [State.ticksNow, hrun, h]
    · simp [State.ticksNow, h, placeCommand, Feed.now]
  · have hisr : (placeCommand s cw).isrEnabled = ((s.pitPend && !s.isrEnabled) && (s.pitIe && s.ie)) := rfl
    cases h : s.isrEnabled
    · rw [hisr, h, Bool.not_false, Bool.and_true]
      exact h
    · simp [hisr, h]

/-- Settles O16: the placed word is a host write of `OP` at the host's turn, with the word's argument in `ARG`. -/
theorem placedWordRunsNext : Obligations.PlacedWordRunsNext := by
  intro s w i hd
  have hw : s.withFetchWord 40 w = placeCommand s (BitVec.ofNat 40 w) := by
    exact congrArg (placeCommand s) (BitVec.eq_of_toNat_eq (by simp))
  obtain ⟨hop, harg⟩ := opcode_argument_of_decode hd
  rw [hw]
  exact ⟨_, step_writeOp_ok (placeCommand_hostTurn s _) rfl hd, by simp [placeCommand], hop.symm,
    by simp [placeCommand, harg], by simp [placeCommand]⟩

end Sys2Proof.Machine
end

section
/-! A running command and the window: two runs that differ in the window's registers and the host's side only. -/

namespace Sys2Proof.Machine

/-- The registers behind the window, the host's accesses to come and its record. -/
structure WindowSide where
  arg     : Word
  op      : Byte
  err     : BitVec 2
  result  : Word
  script  : List HostAction
  hostGot : List Byte

/-- The state with its window side replaced. -/
def State.withWindow (s : State) (w : WindowSide) : State :=
  { s with arg := w.arg, op := w.op, err := w.err, result := w.result, script := w.script, hostGot := w.hostGot }

/-- The outcome with its window side replaced, but for the `RESULT` of a completed command. -/
def outcomeWithWindow (w : WindowSide) : Host.Outcome State Fault Refusal → Host.Outcome State Fault Refusal
  | .next t => .next (t.withWindow { w with result := if t.seqState = .idle then t.result else w.result })
  | .fault f => .fault f
  | .refused r => .refused r

section Window

variable {s : State} (w : WindowSide)

/-- While the next state is busy, its `RESULT` is replaced too. -/
theorem outcomeWithWindow_busy (hb : s.seqState = .busy) :
    outcomeWithWindow w (.next s) = .next (s.withWindow w) := by
  simp [outcomeWithWindow, hb]

theorem tickChosen_withWindow : (s.withWindow w).tickChosen = s.tickChosen.withWindow w := by
  unfold State.tickChosen
  rw [show (s.withWindow w).pitRunning = s.pitRunning from rfl]
  split <;> rfl

theorem takeIsr_withWindow : (s.withWindow w).takeIsr = s.takeIsr.withWindow w := by
  rw [State.takeIsr_eq, State.takeIsr_eq]
  rfl

/-- No micro-op reads the window's registers. -/
theorem runMicro_withWindow (m : MicroOp) : runMicro m (s.withWindow w) = (runMicro m s).withWindow w := by
  cases m with
  | msWait d => rw [runMicro_msWait, runMicro_msWait]; rfl
  | msPoll d => rw [runMicro_msPoll, runMicro_msPoll]; rfl
  | pitSync => rw [runMicro_pitSync, runMicro_pitSync]; rfl
  | slpWait => rw [runMicro_slpWait, runMicro_slpWait]; rfl
  | _ => rfl

theorem resultOf_withWindow (i : Instr) : i.resultOf (s.withWindow w) = i.resultOf s := by
  cases i <;> rfl

/-- A running command's step does not read the window side (R54). -/
theorem exec_withWindow (i : Instr) (hb : s.seqState = .busy) :
    exec i (s.withWindow w) = outcomeWithWindow w (exec i s) := by
  have hb' : (s.withWindow w).seqState = .busy := hb
  cases hp : i.program s.params with
  | none =>
    have hp' : i.program (s.withWindow w).params = none := hp
    simp [exec_eq, hp, hp', sleepRefused, hb, hb', outcomeWithWindow]
  | some μ =>
    have hp' : i.program (s.withWindow w).params = some μ := hp
    cases hm : μ[s.upc]? with
    | some m =>
      rw [exec_micro hb hp hm, exec_micro hb' hp' hm, runMicro_withWindow,
        outcomeWithWindow_busy w (by simpa using hb)]
    | none =>
      rw [exec_busy hb hp, exec_busy hb' hp']
      unfold seqRun
      rw [show (s.withWindow w).upc = s.upc from rfl, hm]
      dsimp only
      split
      · rw [resultOf_withWindow]
        rfl
      · rfl

theorem seqStep_withWindow (hb : s.seqState = .busy) :
    seqStep (s.withWindow w) = outcomeWithWindow w (seqStep s) := by
  unfold seqStep
  rw [show decode (s.withWindow w).params.sleepZero (s.withWindow w).curOp (s.withWindow w).curArg =
    decode s.params.sleepZero s.curOp s.curArg from rfl]
  split
  · exact exec_withWindow w _ hb
  · rfl

/-- A step with the sequencer busy does not read the window side, whichever agent takes it. -/
theorem step_withWindow (hb : s.seqState = .busy) : step (s.withWindow w) = outcomeWithWindow w (step s) := by
  rcases turn_cases s with ht | hi | hs | hh
  · have ht' : (s.withWindow w).ticksNow = true := ht
    rw [step_tick ht, step_tick ht', tickChosen_withWindow, outcomeWithWindow_busy w (by simpa using hb)]
    rfl
  · have hi' : (s.withWindow w).isrTurn := hi
    rw [step_isr hi, step_isr hi', tickChosen_withWindow, takeIsr_withWindow,
      outcomeWithWindow_busy w (by simpa using hb)]
  · have hs' : (s.withWindow w).seqTurn := hs
    rw [step_seq hs, step_seq hs', tickChosen_withWindow, seqStep_withWindow w (by simpa using hb)]
  · simp [hh.2.2] at hb

end Window

/-- Settles O54: `step_withWindow`, with the obligation's six values as the window side. -/
theorem runningCommandReadsNoWindow : Obligations.RunningCommandReadsNoWindow := by
  intro s a o e r l g hb
  refine (step_withWindow ⟨a, o, e, r, l, g⟩ hb).trans ?_
  cases step s <;> rfl

end Sys2Proof.Machine
end

section
/-! The statements about the encoding: the round trip in both directions, and the command errors of R63. -/

namespace Sys2Proof

open Machine

/-- The two halves of a command word are read back as they were joined (R59). -/
theorem decodeWord_append (mode : SleepZeroMode) (op : Byte) (arg : Word) :
    decodeWord mode (op ++ arg) = decode mode op arg := by
  rw [decodeWord, BitVec.extractLsb'_append_eq_left, BitVec.extractLsb'_append_eq_right]

/-- The bits from n up are 0 exactly in the words below `2 ^ n`. -/
theorem extractLsb'_high_eq_zero_iff {w n : Nat} {x : BitVec w} (hn : n ≤ w) :
    x.extractLsb' n (w - n) = 0#(w - n) ↔ x.toNat < 2 ^ n := by
  have hhigh : x.toNat / 2 ^ n < 2 ^ (w - n) := by
    rw [Nat.div_lt_iff_lt_mul (by positivity), ← pow_add, Nat.sub_add_cancel hn]
    exact x.isLt
  simp [BitVec.toNat_eq, Nat.shiftRight_eq_div_pow, Nat.mod_eq_of_lt hhigh, Nat.div_eq_zero_iff]

/-- Zero-extending an operand of n bits sets no reserved bit. -/
theorem extractLsb'_high_setWidth {w n : Nat} (hn : n ≤ w) (x : BitVec n) :
    (x.setWidth w).extractLsb' n (w - n) = 0#(w - n) := by
  rw [extractLsb'_high_eq_zero_iff hn, BitVec.toNat_setWidth_of_le hn]
  exact x.isLt

/-- The low n bits of a zero-extended operand are the operand. -/
theorem extractLsb'_low_setWidth {w n : Nat} (hn : n ≤ w) (x : BitVec n) :
    (x.setWidth w).extractLsb' 0 n = x := by
  ext k hk
  simp [hk, show k < w by omega, BitVec.getLsbD_eq_getElem]

/-- A `SLEEP` is well-formed unless it is the count that `REFUSE` refuses (R63, R122). -/
theorem wf_sleep_iff {mode : SleepZeroMode} {n : Word} :
    (Instr.sleep n).wf mode = true ↔ ¬(n = 0#32 ∧ mode = .refuse) := by
  simp [Instr.wf, imp_iff_not_or, or_comm]

/-- The decoder gives a well-formed command back from its opcode and argument (R60, R62, R63). -/
theorem decode_opcode_argument {mode : SleepZeroMode} {i : Instr} (hwf : i.wf mode = true) :
    decode mode i.opcode i.argument = .ok i := by
  cases i with
  | i2cWriteByte data =>
    have hres := extractLsb'_high_setWidth (w := 32) (n := 8) (by decide) data
    have hlow := extractLsb'_low_setWidth (w := 32) (n := 8) (by decide) data
    simp [decode, Instr.opcode, Instr.argument, hres, hlow]
  | i2cReadByte ack => cases ack <;> rfl
  | sleep n => exact if_neg (wf_sleep_iff.mp hwf)
  | _ => rfl

/-- A word that decodes decodes to a well-formed command (R63). -/
theorem wf_of_decode {mode : SleepZeroMode} {op : Byte} {arg : Word} {i : Instr} (h : decode mode op arg = .ok i) :
    i.wf mode = true := by
  cases i with
  | sleep n => exact wf_sleep_iff.mpr (decode_sleep_not_refused h)
  | _ => rfl

/-- Settles O1: the decoder on the two fields, and on the word that joins them. -/
theorem decodeOfEncode : Obligations.DecodeOfEncode := by
  intro mode i hwf
  have hd := decode_opcode_argument hwf
  exact ⟨hd, (decodeWord_append mode i.opcode i.argument).trans hd⟩

/-- Settles O2: a decoded command carries the word's two fields, so its encoding joins them again. -/
theorem encodeOfDecode : Obligations.EncodeOfDecode := by
  intro mode op arg i h
  obtain ⟨rfl, rfl⟩ := opcode_argument_of_decode h
  exact ⟨rfl, rfl, wf_of_decode h, rfl⟩

/-- The opcodes of R62. -/
def opcodes : List Byte := [0x10#8, 0x11#8, 0x20#8, 0x21#8, 0x22#8, 0x23#8, 0x24#8, 0x30#8, 0x31#8]

/-- The argument sets a bit that the opcode's format reserves (R60). -/
def ReservedBitSet (op : Byte) (arg : Word) : Prop :=
  (op ∈ [0x20#8, 0x21#8, 0x22#8] ∧ arg ≠ 0#32) ∨ (op = 0x23#8 ∧ 256 ≤ arg.toNat) ∨ (op = 0x24#8 ∧ 2 ≤ arg.toNat)

/-- The decoder's errors, each with its cause (R63, R129): an opcode of R62 leaves its own row of the case list, any
other opcode leaves the last. -/
theorem decode_eq_error_iff {mode : SleepZeroMode} {op : Byte} {arg : Word} {e : CmdError} :
    decode mode op arg = .error e ↔
      (e = .illegalOpcode ∧ op ∉ opcodes) ∨ (e = .reservedArg ∧ ReservedBitSet op arg) ∨
      (e = .zeroCycles ∧ op = 0x31#8 ∧ arg = 0#32 ∧ mode = .refuse) := by
  have hB : ¬arg.extractLsb' 8 24 = 0#24 ↔ 256 ≤ arg.toNat :=
    (extractLsb'_high_eq_zero_iff (by decide)).not.trans Nat.not_lt
  have hA : ¬arg.extractLsb' 1 31 = 0#31 ↔ 2 ≤ arg.toNat :=
    (extractLsb'_high_eq_zero_iff (by decide)).not.trans Nat.not_lt
  by_cases hop : op ∈ opcodes
  · simp only [opcodes, List.mem_cons, List.not_mem_nil, or_false] at hop
    rcases hop with rfl | rfl | rfl | rfl | rfl | rfl | rfl | rfl | rfl
    all_goals simp [decode, opcodes, ReservedBitSet, hA, hB, ite_eq_iff, eq_comm (b := e), and_comm]
  · have hne := hop
    simp only [opcodes, List.mem_cons, List.not_mem_nil, or_false, not_or] at hne
    simp [decode, ReservedBitSet, hop, hne, eq_comm (b := e)]

/-- Settles O3: each error's cause, read off `decode_eq_error_iff`. -/
theorem decodeErrorsExactly : Obligations.DecodeErrorsExactly := by
  intro mode op arg
  simp [decode_eq_error_iff, opcodes, ReservedBitSet]

/-- Settles O4: the decoder evaluated on the eleven words of the spec. -/
theorem specWordsDecode : Obligations.SpecWordsDecode := by
  unfold Obligations.SpecWordsDecode
  decide

end Sys2Proof
end

section
/-! SUPPORT. Elapsed time (R69) as arithmetic, and the comparisons of the wait and the poll (R72, R73). -/

namespace Sys2Proof.Machine

@[simp] theorem duration_eq (v : Word) : duration v = v := BitVec.setWidth_eq v

/-- The wrapping difference in natural numbers (R69). -/
theorem elapsed_toNat (t s : Ms) : (elapsed t s).toNat = (t.toNat + (2 ^ 32 - s.toNat)) % 2 ^ 32 := by
  rw [elapsed, BitVec.toNat_sub, Nat.add_comm]

/-- The wrapping difference in integers (R69). -/
theorem elapsed_toInt (t s : Ms) : ((elapsed t s).toNat : Int) = ((t.toNat : Int) - (s.toNat : Int)) % 2 ^ 32 := by
  have hs := s.isLt
  rw [elapsed_toNat]
  omega

/-- Between true counts less than `2 ^ 32` apart the elapsed time is the true advance (R79). -/
theorem elapsed_ofNat {c c' : Nat} (hle : c ≤ c') (hlt : c' < c + 2 ^ 32) :
    (elapsed (BitVec.ofNat 32 c') (BitVec.ofNat 32 c)).toNat = c' - c := by
  rw [elapsed_toNat, BitVec.toNat_ofNat, BitVec.toNat_ofNat]
  omega

theorem waitEnds_iff (t s d : Ms) : waitEnds t s d = true ↔ d.toNat ≤ (elapsed t s).toNat := decide_eq_true_iff

theorem pollFires_iff (t s d : Ms) : pollFires t s d = true ↔ d.toNat < (elapsed t s).toNat := decide_eq_true_iff

theorem pollFires_eq (t s d : Ms) :
    pollFires t s d = decide (d.toNat < (t.toNat + (2 ^ 32 - s.toNat)) % 2 ^ 32) := by
  rw [pollFires, elapsed_toNat]

/-- `RESULT` of `DELAY_POLL` as a number (R58). -/
theorem pollResult_eq (s : State) : pollResult s = if s.pollr then 1#32 else 0#32 := by
  cases h : s.pollr <;> simp [pollResult, h]

end Sys2Proof.Machine
end

section
/-! SUPPORT. Counter reads one after the other, and a wait of any number of them. -/

namespace Sys2Proof.Machine

/-- The next counter read is read 0 from now. -/
theorem State.msNow_eq_msAt (s : State) : s.msNow = s.msAt 0 := rfl

@[simp] theorem State.issue_msAt (s : State) (o : Byte) (a : Word) (k : Nat) : (s.issue o a).msAt k = s.msAt k := rfl

/-- After the start read the reads to come are one further on. -/
@[simp] theorem runMicro_msStart_msAt (s : State) (k : Nat) : (runMicro .msStart s).msAt k = s.msAt (k + 1) := rfl

@[simp] theorem runMicro_msStart_trace (s : State) : (runMicro .msStart s).trace = s.trace ++ [.ms (s.msAt 0)] := rfl

/-- The state after k counter reads that change nothing but the trace and the feed: a wait that does not end (R72). -/
def State.afterReads (s : State) (k : Nat) : State :=
  { s with msFeed := s.msFeed.after k, trace := s.trace ++ (List.range k).map (fun j => .ms (s.msAt j)) }

/-- One more read. -/
theorem State.afterReads_succ (s : State) (k : Nat) : s.afterReads (k + 1) =
    { s.afterReads k with
      msFeed := (s.afterReads k).msFeed.next, trace := (s.afterReads k).trace ++ [.ms (s.msAt k)] } := by
  simp [afterReads, Feed.next_after, List.range_succ]

section Wait

variable {i : Instr} {μ : List MicroOp} {s : State} {d : Ms} (hb : s.seqState = .busy)
  (hp : i.program s.params = some μ) (hm : μ[s.upc]? = some (.msWait d))
include hb hp hm

/-- The step of a wait that has made n reads: one more, and on if it reaches the duration (R72). -/
theorem exec_msWait_afterReads (n : Nat) : exec i (s.afterReads n) = .next { s.afterReads (n + 1) with
    upc := if waitEnds (s.msAt n) s.tsBlock d then s.upc + 1 else s.upc } := by
  rw [exec_micro (s := s.afterReads n) hb hp hm, runMicro_msWait, State.afterReads_succ]
  rfl

/-- The command reads the counter, step after step, while the elapsed time is below the duration (R72, R78). -/
theorem execRun_unfinished_wait (n k : Nat) (hw : ∀ j < n, waitEnds (s.msAt j) s.tsBlock d = false) :
    execRun i (n + k) s = execRun i k (s.afterReads n) := by
  induction n generalizing k with
  | zero => simp [State.afterReads, Feed.after]
  | succ n ih =>
    have hstep : exec i (s.afterReads n) = .next (s.afterReads (n + 1)) := by
      rw [exec_msWait_afterReads hb hp hm, hw n (Nat.lt_succ_self n)]
      rfl
    rw [Nat.add_right_comm, Nat.add_assoc, ih (k + 1) fun j hj => hw j (Nat.lt_succ_of_lt hj), execRun_succ _ hstep]

/-- The wait of n reads below the duration ends at the next read, which reaches it. -/
theorem execRun_wait (n k : Nat) (hw : ∀ j < n, waitEnds (s.msAt j) s.tsBlock d = false)
    (hend : waitEnds (s.msAt n) s.tsBlock d = true) :
    execRun i (n + (k + 1)) s = execRun i k { s.afterReads (n + 1) with upc := s.upc + 1 } := by
  have hstep := exec_msWait_afterReads hb hp hm n
  rw [if_pos hend] at hstep
  rw [execRun_unfinished_wait hb hp hm n (k + 1) hw, execRun_succ _ hstep]

end Wait

end Sys2Proof.Machine
end

section
/-! SUPPORT. Everything a delay command's step can do, what the window keeps, and who writes the two timestamps. -/

namespace Sys2Proof.Machine

/-- Outside `STATUS` and `RESULT` the window shows `ARG` and `OP` only (R42). -/
theorem windowRead_eq_of_arg_op {s t : State} (harg : t.arg = s.arg) (hop : t.op = s.op) {off : Offset}
    (hstatus : off ≠ 0x5#4) (hresult : off < 0x8#4 ∨ 0xB#4 < off) : t.windowRead off = s.windowRead off := by
  have h8 : off ≠ 0x8#4 := by bv_omega
  have h9 : off ≠ 0x9#4 := by bv_omega
  have hA : off ≠ 0xA#4 := by bv_omega
  have hB : off ≠ 0xB#4 := by bv_omega
  simp [State.windowRead, harg, hop, hstatus, h8, h9, hA, hB]

/-- No command's step changes the window outside `STATUS` and `RESULT`. -/
theorem exec_windowRead {i : Instr} {s t : State} (h : exec i s = .next t) {off : Offset} (hstatus : off ≠ 0x5#4)
    (hresult : off < 0x8#4 ∨ 0xB#4 < off) : t.windowRead off = s.windowRead off := by
  obtain ⟨harg, hop, -⟩ := exec_keeps h
  exact windowRead_eq_of_arg_op harg hop hstatus hresult

/-- Everything a step of `DELAY_BLOCKING` can do (R74). -/
theorem exec_delayBlocking_cases {ms : Word} {s t : State} (h : exec (.delayBlocking ms) s = .next t) :
    (s.seqState = .idle ∧ t = s.issue 0x10#8 ms) ∨ t = runMicro .msStart s ∨ t = runMicro (.msWait ms) s ∨
      t = s.complete 0#32 := by
  rcases exec_cases h with ⟨_, hs, _, rfl⟩ | ⟨_, m, _, hp, hm, rfl⟩ | ⟨_, _, _, _, rfl⟩ | ⟨_, hp, _⟩
  · exact .inl ⟨hs, rfl⟩
  · cases hp
    have hmem : m = .msStart ∨ m = .msWait ms := by
      simpa [delayBlockingProgram] using List.mem_of_getElem? hm
    rcases hmem with rfl | rfl
    · exact .inr (.inl rfl)
    · exact .inr (.inr (.inl rfl))
  · exact .inr (.inr (.inr rfl))
  · cases hp

/-- Everything a step of `DELAY_POLL` can do (R75). -/
theorem exec_delayPoll_cases {ms : Word} {s t : State} (h : exec (.delayPoll ms) s = .next t) :
    (s.seqState = .idle ∧ t = s.issue 0x11#8 ms) ∨ t = runMicro (.msPoll ms) s ∨ t = s.complete (pollResult s) := by
  rcases exec_cases h with ⟨_, hs, _, rfl⟩ | ⟨_, m, _, hp, hm, rfl⟩ | ⟨_, _, _, _, rfl⟩ | ⟨_, hp, _⟩
  · exact .inl ⟨hs, rfl⟩
  · cases hp
    obtain rfl : m = .msPoll ms := by simpa [delayPollProgram] using List.mem_of_getElem? hm
    exact .inr (.inl rfl)
  · exact .inr (.inr rfl)
  · cases hp

/-- Only `MS_START` writes `TS_BLOCK` (R71). -/
theorem runMicro_tsBlock (m : MicroOp) (s : State) : (runMicro m s).tsBlock = s.tsBlock ∨ m = .msStart := by
  cases m with
  | msStart => exact .inr rfl
  | msWait d => exact .inl (by rw [runMicro_msWait])
  | msPoll d => exact .inl (by rw [runMicro_msPoll])
  | pitSync => exact .inl (by rw [runMicro_pitSync])
  | slpWait => exact .inl (by rw [runMicro_slpWait])
  | _ => exact .inl rfl

/-- Only `MS_POLL` writes `TS_POLL` (R73). -/
theorem runMicro_tsPoll (m : MicroOp) (s : State) : (runMicro m s).tsPoll = s.tsPoll ∨ ∃ d, m = .msPoll d := by
  cases m with
  | msPoll d => exact .inr ⟨d, rfl⟩
  | msWait d => exact .inl (by rw [runMicro_msWait])
  | pitSync => exact .inl (by rw [runMicro_pitSync])
  | slpWait => exact .inl (by rw [runMicro_slpWait])
  | _ => exact .inl rfl

/-- `MS_START` stands in `DELAY_BLOCKING` and `MS_POLL` in `DELAY_POLL` only (R74, R75). -/
theorem delay_of_mem_program {i : Instr} {p : Params} {μ : List MicroOp} (hp : i.program p = some μ) :
    (.msStart ∈ μ → ∃ ms, i = .delayBlocking ms) ∧ (∀ d, .msPoll d ∈ μ → ∃ ms, i = .delayPoll ms) := by
  cases i with
  | delayBlocking ms =>
    cases hp
    simp [delayBlockingProgram]
  | delayPoll ms =>
    cases hp
    simp [delayPollProgram]
  | i2cWriteByte _ | i2cReadByte _ =>
    obtain ⟨body, rfl, hbody⟩ := masksIrq_program rfl hp
    have hbus := List.all_eq_true.mp hbody
    refine ⟨fun hmem => ?_, fun d hmem => ?_⟩
    · cases hbus .msStart (by simpa using hmem)
    · cases hbus (.msPoll d) (by simpa using hmem)
  | sleep n =>
    obtain ⟨k, -, rfl⟩ := Option.map_eq_some_iff.mp hp
    simp [sleepProgram]
  | _ =>
    cases hp
    simp [i2cInitProgram, i2cStartProgram, i2cStopProgram, sleepConfigProgram]

end Sys2Proof.Machine
end

section
/-! The statements about the delay commands: their micro-ops, their runs, their frame and their timestamps. -/

namespace Sys2Proof.Machine

/-- Settles O6: the difference in integers is never negative, and both comparisons are of that number. -/
theorem elapsedTimeWraps : Obligations.ElapsedTimeWraps := by
  intro t s d
  refine ⟨elapsed_toInt t s, Nat.le_sub_one_of_lt (elapsed t s).isLt, ?_, ?_⟩
  · rw [waitEnds_iff, ← elapsed_toInt, Int.ofNat_le]
  · rw [pollFires_iff, ← elapsed_toInt, Int.ofNat_lt]

/-- Settles O23: each micro-op's record, with the comparisons on the elapsed time in arithmetic form. -/
theorem counterMicroOps : Obligations.CounterMicroOps := by
  refine fun i μ s hb hp => ⟨fun hm => ?_, fun d hm => ?_, fun d hm => ?_⟩
  · rw [exec_micro hb hp hm, runMicro_msStart, State.msNow_eq_msAt]
  · rw [exec_micro hb hp hm, runMicro_msWait, State.msNow_eq_msAt]
    simp only [waitEnds_iff, elapsed_toNat]
  · rw [exec_micro hb hp hm, runMicro_msPoll, State.msNow_eq_msAt]
    simp only [pollFires_eq, decide_eq_true_iff]

/-- Settles O30: issue, the start read, n reads that do not end the wait, the read that does, completion; only the
trace is not the expected record's by computation. -/
theorem delayBlockingRun : Obligations.DelayBlockingRun := by
  intro s d n hs hbelow hreach
  have hissue : exec (.delayBlocking d) s = .next (s.issue 0x10#8 d) := exec_idle hs rfl
  have hstart : exec (.delayBlocking d) (s.issue 0x10#8 d) = .next (runMicro .msStart (s.issue 0x10#8 d)) :=
    exec_micro rfl rfl rfl
  have hwait := execRun_wait (i := .delayBlocking d) (s := runMicro .msStart (s.issue 0x10#8 d)) (d := d) rfl rfl
    rfl n 1 (fun j hj => ?_) ?_
  · rw [execRun_succ (n + 3) hissue, execRun_succ (n + 2) hstart, hwait, execRun_succ 0 (exec_done rfl rfl rfl)]
    refine congrArg _ ?_
    ext1
    case trace =>
      simp [State.afterReads, List.range_succ_eq_map, Instr.resultOf, zeroResult]
    all_goals rfl
  · rw [Bool.eq_false_iff, ne_eq, waitEnds_iff, elapsed_toNat, Nat.not_le]
    exact hbelow j hj
  · rw [waitEnds_iff, elapsed_toNat]
    exact hreach

/-- Settles O31: the run of a command without waits, whose one micro-op is the poll, compared field by field. -/
theorem delayPollRun : Obligations.DelayPollRun := by
  intro s d hs
  have hstraight : ∀ m ∈ delayPollProgram d, straight m = true := by
    intro m hm
    obtain rfl := List.mem_singleton.mp hm
    rfl
  refine (execRun_whole (i := .delayPoll d) hs rfl hstraight rfl).trans (congrArg _ ?_)
  ext1 <;> simp [micros, delayPollProgram, runMicro_msPoll, State.msNow_eq_msAt, Instr.resultOf, pollResult_eq,
    pollFires_eq, Instr.opcode, Instr.argument]

/-- Settles O32: the elapsed time is the true advance `c' - c`, and the poll's comparison is strict. -/
theorem pollWindow : Obligations.PollWindow := by
  intro s d c c' hb hu hts hms hle hlt
  have hm : (delayPollProgram d)[s.upc]? = some (.msPoll d) := by simp [hu, delayPollProgram]
  have hfires : pollFires (s.msAt 0) s.tsPoll d = true ↔ c + d.toNat + 1 ≤ c' := by
    rw [pollFires_iff, hms, hts, elapsed_ofNat hle hlt]
    omega
  refine ⟨_, exec_micro hb rfl hm, ?_⟩
  rw [runMicro_msPoll, State.msNow_eq_msAt]
  dsimp only
  refine ⟨hfires, fun h => ?_, fun h => ?_, fun hd => ?_, fun hd => ?_⟩
  · rw [if_pos h, hms]
  · exact if_neg (Bool.eq_false_iff.mp h)
  · rw [hd, BitVec.toNat_ofNat] at hfires
    rw [Bool.eq_false_iff, hd, ne_eq, hfires]
    omega
  · rw [hd, BitVec.toNat_ofNat] at hfires
    rw [hd, hfires]
    omega

/-- Settles O44: each step of the two commands in its record; the window by what every command keeps. -/
theorem delayFrame : Obligations.DelayFrame := by
  refine ⟨fun ms s t h => ?_, fun ms s t h => ?_⟩
  · have hwindow := fun off => exec_windowRead h (off := off)
    rcases exec_delayBlocking_cases h with ⟨hs, rfl⟩ | rfl | rfl | rfl
    · simpa [hs] using hwindow
    · simpa [runMicro_msStart] using hwindow
    · simpa [runMicro_msWait] using hwindow
    · simpa using hwindow
  · have hwindow := fun off => exec_windowRead h (off := off)
    rcases exec_delayPoll_cases h with ⟨hs, rfl⟩ | rfl | rfl
    · simpa [hs] using hwindow
    · simpa [runMicro_msPoll] using hwindow
    · simpa using hwindow

/-- Settles O48: of all steps only a micro-op writes a timestamp; each timestamp has one such micro-op, in one
command. -/
theorem timestampWriters : Obligations.TimestampWriters := by
  refine ⟨fun i s t h => ?_, fun s t h hne => ?_⟩
  · rcases exec_cases h with ⟨_, _, _, rfl⟩ | ⟨μ, m, _, hp, hm, rfl⟩ | ⟨_, _, _, _, rfl⟩ | ⟨_, _, rfl⟩
    · simp
    · obtain ⟨hstart, hpoll⟩ := delay_of_mem_program hp
      have hmem := List.mem_of_getElem? hm
      refine ⟨fun hne => ?_, fun hne => ?_⟩
      · obtain rfl := (runMicro_tsBlock m s).resolve_left hne
        exact hstart hmem
      · obtain ⟨d, rfl⟩ := (runMicro_tsPoll m s).resolve_left hne
        exact hpoll d hmem
    · simp
    · simp
  · cases stepForm_of_step h with
    | micro hs _ _ _ => exact hs
    | _ => simp at hne

end Sys2Proof.Machine
end

section
/-! The statements about the micro-ops of the bus and of the interrupt mask, in whatever command they stand. -/

namespace Sys2Proof.Machine

/-- Settles O20: each micro-op's record. -/
theorem pinMicroOps : Obligations.PinMicroOps := by
  refine fun i μ s hb hp => ⟨fun hm => ?_, fun hm => ?_, fun hm => ?_, fun hm => ?_, fun hm => ?_, fun hm => ?_⟩
  · rw [exec_micro hb hp hm, runMicro_sclH]
  · rw [exec_micro hb hp hm, runMicro_sclL]
  · rw [exec_micro hb hp hm, runMicro_sdaLo]
  · rw [exec_micro hb hp hm, runMicro_sdaHi]
  · rw [exec_micro hb hp hm, runMicro_sdaRel]
  · rw [exec_micro hb hp hm, runMicro_dly]

/-- The next draw of the data line is draw 0 from now. -/
theorem State.sdaNow_eq_sdaAt (s : State) : s.sdaNow = s.sdaAt 0 := rfl

/-- Settles O21: each micro-op's record, with the drawn bit as the statement names it. -/
theorem sampleMicroOps : Obligations.SampleMicroOps := by
  refine fun i μ s hb hp => ⟨fun hm => ?_, fun hm => ?_⟩
  · rw [exec_micro hb hp hm, runMicro_smpBit, shiftIn, State.sdaNow_eq_sdaAt]
  · rw [exec_micro hb hp hm, runMicro_smpAck, State.sdaNow_eq_sdaAt]

/-- Settles O22: each micro-op's record; what it leaves in `IE` and `IE_SAVED` is by the resume mode. -/
theorem interruptMaskMicroOps : Obligations.InterruptMaskMicroOps := by
  refine fun i μ s hb hp => ⟨fun hm => ?_, fun hm => ?_⟩
  · exact (exec_micro hb hp hm).trans (congrArg _ (runMicro_irqOff s))
  · exact (exec_micro hb hp hm).trans (congrArg _ (runMicro_irqOn s))

end Sys2Proof.Machine
end

section
/-! SUPPORT. How often a micro-op stands in a micro-program: the data of a write decides between `SDA_HI` and `SDA_LO`
only. -/

namespace Sys2Proof.Machine

/-- The micro-ops that drive a data bit (R95, R96). -/
def drivesBit : MicroOp → Bool
  | .sdaHi | .sdaLo => true
  | _ => false

theorem count_sdaHi_add_count_sdaLo (l : List MicroOp) : l.count .sdaHi + l.count .sdaLo = l.countP drivesBit := by
  induction l with
  | nil => rfl
  | cons m l ih =>
    cases m <;> simp [List.countP_cons, drivesBit, ← ih] <;> omega

/-- The micro-ops of a write byte up to the acknowledgment: the mask and the eight bits (R103). -/
def writeBits (d : Byte) : List MicroOp :=
  [.irqOff] ++ wbit (dataBit d 7) ++ wbit (dataBit d 6) ++ wbit (dataBit d 5) ++ wbit (dataBit d 4) ++
    wbit (dataBit d 3) ++ wbit (dataBit d 2) ++ wbit (dataBit d 1) ++ wlast (dataBit d 0)

theorem i2cWriteByteProgram_eq (d : Byte) : i2cWriteByteProgram d = writeBits d ++ (acks ++ [.irqOn]) :=
  List.append_assoc _ _ _

theorem writeBits_length (d : Byte) : (writeBits d).length = 42 := by
  simp [writeBits]

section Count

variable {p : MicroOp → Bool} (hp : p .sdaHi = p .sdaLo)
include hp

theorem wbit_countP (b : Bool) : (wbit b).countP p = (wbit false).countP p := by
  cases b <;> simp [wbit, List.countP_cons, hp]

theorem wlast_countP (b : Bool) : (wlast b).countP p = (wlast false).countP p := by
  cases b
  · rfl
  · simp [wlast, pulse, List.countP_cons, hp]
    omega

/-- What does not tell `SDA_HI` from `SDA_LO` counts alike in the writes of all bytes. -/
theorem writeBits_countP (d : Byte) : (writeBits d).countP p = (writeBits 0#8).countP p := by
  simp only [writeBits, List.countP_append, wbit_countP hp (dataBit d _), wlast_countP hp (dataBit d _)]
  rfl

theorem i2cWriteByteProgram_countP (d : Byte) :
    (i2cWriteByteProgram d).countP p = (i2cWriteByteProgram 0#8).countP p := by
  simp only [i2cWriteByteProgram_eq, List.countP_append, writeBits_countP hp d]

end Count

theorem writeByte_counts (d : Byte) : (i2cWriteByteProgram d).length = 47 ∧ (i2cWriteByteProgram d).count .sclH = 9 ∧
    (i2cWriteByteProgram d).count .sclL = 9 ∧ (i2cWriteByteProgram d).count .dly = 17 ∧
    (i2cWriteByteProgram d).count .sdaHi + (i2cWriteByteProgram d).count .sdaLo = 8 ∧
    (i2cWriteByteProgram d).count .sdaRel = 1 ∧ (i2cWriteByteProgram d).count .smpAck = 1 := by
  rw [count_sdaHi_add_count_sdaLo]
  exact ⟨i2cWriteByteProgram_length d, i2cWriteByteProgram_countP rfl d, i2cWriteByteProgram_countP rfl d,
    i2cWriteByteProgram_countP rfl d, i2cWriteByteProgram_countP rfl d, i2cWriteByteProgram_countP rfl d,
    i2cWriteByteProgram_countP rfl d⟩

/-- The acknowledgment comes after the eight bits. -/
theorem writeByte_first42_counts (d : Byte) : ((i2cWriteByteProgram d).take 42).count .smpAck = 0 ∧
    ((i2cWriteByteProgram d).take 42).count .sdaHi + ((i2cWriteByteProgram d).take 42).count .sdaLo = 8 := by
  rw [count_sdaHi_add_count_sdaLo, i2cWriteByteProgram_eq, List.take_left' (writeBits_length d)]
  exact ⟨writeBits_countP rfl d, writeBits_countP rfl d⟩

theorem sleepProgram_counts (k : Nat) : (sleepProgram k).count .slpWait = k ∧ (sleepProgram k).count .adcOff = 1 ∧
    (sleepProgram k).count .adcOn = 1 := by
  simp [sleepProgram, List.count_replicate]

/-- Settles O26: a write byte counts like the write of 0, a read byte is one of two programs, a sleep's cycles are a
replicated `SLP_WAIT`. -/
theorem programLengthsAndCounts : Obligations.ProgramLengthsAndCounts := by
  refine ⟨fun d => ?_, fun a => ?_, fun x => rfl, fun k => ⟨sleepProgram_length k, sleepProgram_counts k⟩⟩
  · obtain ⟨hlen, hsclH, hsclL, hdly, hbits, hrel, hack⟩ := writeByte_counts d
    exact ⟨hlen, hsclH, hsclL, hdly, hbits, hrel, hack, writeByte_first42_counts d⟩
  · cases a
    · decide
    · decide

end Sys2Proof.Machine
end

section
/-! SUPPORT. The clock and data pins under the micro-ops, and a byte operation's micro-program read against the
clock. -/

namespace Sys2Proof.Machine

/-- The clock pin's mode after a micro-op (R84, R85). -/
def clockAfter (c : PinMode) : MicroOp → PinMode
  | .sclH => .driveHigh
  | .sclL => .driveLow
  | _ => c

/-- Only `SCL_H` and `SCL_L` write the clock pin. -/
theorem runMicro_sclMode (m : MicroOp) (s : State) : (runMicro m s).sclMode = clockAfter s.sclMode m := by
  cases m with
  | msWait d => rw [runMicro_msWait]; rfl
  | msPoll d => rw [runMicro_msPoll]; rfl
  | pitSync => rw [runMicro_pitSync]; rfl
  | slpWait => rw [runMicro_slpWait]; rfl
  | _ => rfl

theorem clockAfter_eq_or_ne_released (c : PinMode) (m : MicroOp) : clockAfter c m = c ∨ clockAfter c m ≠ .released := by
  cases m with
  | sclH | sclL => exact .inr (by simp [clockAfter])
  | _ => exact .inl rfl

/-- Settles O51: of all steps only a micro-op writes the clock pin, and it drives it. -/
theorem clockNeverReleasedAgain : Obligations.ClockNeverReleasedAgain := by
  intro s t h
  cases stepForm_of_step h with
  | @micro i μ m hs _ _ _ =>
    have hclk := runMicro_sclMode m s.tickChosen
    rw [State.tickChosen_sclMode] at hclk
    rw [hclk]
    rcases clockAfter_eq_or_ne_released s.sclMode m with heq | hne
    · simp [heq]
    · exact ⟨fun _ => hne, fun _ => ⟨hs, hne⟩⟩
  | _ => simp

/-- The micro-ops that write the data pin (R86 to R88). -/
def writesData : MicroOp → Bool
  | .sdaLo | .sdaHi | .sdaRel => true
  | _ => false

/-- From a clock pin in mode c the micro-ops of l write the data pin only where the clock is driven low, and leave it
driven low. -/
def dataWithClockLow (c : PinMode) : List MicroOp → Bool
  | [] => c == .driveLow
  | m :: l => (!writesData m || c == .driveLow) && dataWithClockLow (clockAfter c m) l

@[simp] theorem dataWithClockLow_wbit (b : Bool) (l : List MicroOp) :
    dataWithClockLow .driveLow (wbit b ++ l) = dataWithClockLow .driveLow l := by
  cases b <;> rfl

@[simp] theorem dataWithClockLow_wlast (b : Bool) (l : List MicroOp) :
    dataWithClockLow .driveLow (wlast b ++ l) = dataWithClockLow .driveLow l := by
  cases b <;> rfl

/-- Between two bits of a byte operation the clock is low, and within one data settles before the clock rises (R95,
R96, R99). -/
theorem dataWithClockLow_program {i : Instr} {p : Params} {μ : List MicroOp} (hi : i.masksIrq = true)
    (hp : i.program p = some μ) : dataWithClockLow .driveLow μ = true := by
  cases i with
  | i2cWriteByte d =>
    cases hp
    have hmask (l : List MicroOp) : dataWithClockLow .driveLow (.irqOff :: l) = dataWithClockLow .driveLow l := rfl
    have hacks : dataWithClockLow .driveLow (acks ++ [.irqOn]) = true := rfl
    simp only [i2cWriteByteProgram, List.append_assoc, List.cons_append, List.nil_append, hmask,
      dataWithClockLow_wbit, dataWithClockLow_wlast, hacks]
  | i2cReadByte a =>
    cases hp
    cases a <;> rfl
  | _ => cases hi

end Sys2Proof.Machine
end

section
/-! In a byte operation entered with the clock low, data changes only while the clock is low: an invariant over the
points of the operation's run. -/

namespace Sys2Proof.Machine

/-- What holds before a run of a command and is kept by its every step holds after the run. -/
theorem execRun_invariant {i : Instr} {P : State → Prop}
    (hstep : ∀ u v : State, P u → exec i u = .next v → P v) {k : Nat} {s t : State} (hs : P s)
    (h : execRun i k s = .next t) : P t := by
  induction k generalizing s with
  | zero =>
    cases h
    exact hs
  | succ k ih =>
    simp only [execRun] at h
    split at h
    · exact ih (hstep _ _ hs ‹_›) h
    · cases h
    · cases h

/-- Everything a step of a command with a micro-program can do. -/
theorem exec_cases_of_program {i : Instr} {μ : List MicroOp} {s t : State} (hp : i.program s.params = some μ)
    (h : exec i s = .next t) :
    (s.seqState = .idle ∧ t = s.issue i.opcode i.argument) ∨
    (∃ m, s.seqState = .busy ∧ μ[s.upc]? = some m ∧ t = runMicro m s) ∨
    (s.seqState = .busy ∧ s.upc = μ.length ∧ t = s.complete (i.resultOf s)) := by
  rcases exec_cases h with ⟨_, hs, _, rfl⟩ | ⟨μ', m, hb, hp', hm, rfl⟩ | ⟨μ', hb, hp', hu, rfl⟩ | ⟨_, hp', _⟩
  · exact .inl ⟨hs, rfl⟩
  · obtain rfl : μ = μ' := by simpa [hp] using hp'
    exact .inr (.inl ⟨m, hb, hm, rfl⟩)
  · obtain rfl : μ = μ' := by simpa [hp] using hp'
    exact .inr (.inr ⟨hb, hu, rfl⟩)
  · simp [hp] at hp'

/-- The rest of the micro-program μ of command i, where s stands in it, writes data with the clock low only. -/
def State.dataSafe (i : Instr) (μ : List MicroOp) (s : State) : Prop :=
  i.program s.params = some μ ∧
    match s.seqState with
    | .idle => s.sclMode = .driveLow
    | .busy => dataWithClockLow s.sclMode (μ.drop s.upc) = true

/-- The micro-op a data-safe state stands at writes data with the clock low only, and so does the rest after it. -/
theorem dataWithClockLow_at {μ : List MicroOp} {m : MicroOp} {u : Nat} {c : PinMode} (hm : μ[u]? = some m)
    (h : dataWithClockLow c (μ.drop u) = true) :
    (writesData m = true → c = .driveLow) ∧ dataWithClockLow (clockAfter c m) (μ.drop (u + 1)) = true := by
  obtain ⟨hlt, rfl⟩ := List.getElem?_eq_some_iff.mp hm
  rw [List.drop_eq_getElem_cons hlt, dataWithClockLow, Bool.and_eq_true] at h
  exact ⟨fun hw => by simpa [hw] using h.1, h.2⟩

theorem straight_of_busOp {m : MicroOp} (h : busOp m = true) : straight m = true := by
  cases m with
  | msWait | pitSync | slpWait => cases h
  | _ => rfl

/-- The micro-ops of a byte operation complete at their first step (R103, R104). -/
theorem straight_of_masksIrq {i : Instr} {p : Params} {μ : List MicroOp} (hi : i.masksIrq = true)
    (hp : i.program p = some μ) : ∀ m ∈ μ, straight m = true := by
  obtain ⟨body, rfl, hbody⟩ := masksIrq_program hi hp
  intro m hm
  rw [List.mem_cons, List.mem_append, List.mem_singleton] at hm
  rcases hm with rfl | hm | rfl
  · rfl
  · exact straight_of_busOp (List.all_eq_true.mp hbody m hm)
  · rfl

/-- Every step of a byte operation keeps it data-safe: the issue of the next one included, since the clock ends low. -/
theorem exec_dataSafe {i : Instr} {μ : List MicroOp} {s t : State} (hi : i.masksIrq = true) (hs : s.dataSafe i μ)
    (h : exec i s = .next t) : t.dataSafe i μ := by
  obtain ⟨hp, hs⟩ := hs
  obtain ⟨-, -, -, hparams, -⟩ := exec_keeps h
  refine ⟨hparams ▸ hp, ?_⟩
  have hstraight (m : MicroOp) (hm : μ[s.upc]? = some m) : straight m = true :=
    straight_of_masksIrq hi hp m (List.mem_of_getElem? hm)
  rcases exec_cases_of_program hp h with ⟨hidle, rfl⟩ | ⟨m, hb, hm, rfl⟩ | ⟨hb, hu, rfl⟩
  · simp only [hidle] at hs
    simpa [hs] using dataWithClockLow_program hi hp
  · simp only [hb] at hs
    simpa [hb, runMicro_sclMode, runMicro_straight_upc (hstraight m hm)] using (dataWithClockLow_at hm hs).2
  · simpa [hb, hu, dataWithClockLow] using hs

/-- Settles O55: every point of the run is data-safe, and there a write of data finds the clock low. -/
theorem dataChangesOnlyWithClockLow : Obligations.DataChangesOnlyWithClockLow := by
  intro i s t μ m k hi hidle hlow hp hrun hb hm hdata
  have hs : s.dataSafe i μ := ⟨hp, by simpa [hidle] using hlow⟩
  obtain ⟨-, ht⟩ := execRun_invariant (fun _ _ hu => exec_dataSafe hi hu) hs hrun
  simp only [hb] at ht
  refine (dataWithClockLow_at hm ht).1 ?_
  rcases hdata with rfl | rfl | rfl <;> rfl

end Sys2Proof.Machine
end

section
/-! Inside a byte operation's critical section: the ISR is masked, so a step is the tick or the operation's own. -/

namespace Sys2Proof.Machine

/-- Settles O39: the invariant's `IE = 0` leaves the tick and the sequencer, and neither clears `PIT_PEND`. -/
theorem criticalSectionDefersIsr : Obligations.CriticalSectionDefersIsr := by
  intro s i μ hinv hb hc hi hp hpos hlt
  obtain ⟨-, -, hcrit, -⟩ := hinv
  have hie : s.ie = false := hcrit hb i μ hc hi hp hpos hlt
  have hstep : step s = if s.ticksNow then .next s.tickChosen.tick else exec i s.tickChosen := by
    cases ht : s.ticksNow with
    | true => exact step_tick ht
    | false =>
      have hs : s.seqTurn := ⟨ht, isrEnabled_eq_false (.inl hie), hb⟩
      exact (step_seq hs).trans (seqStep_current (by simpa using hc))
  refine ⟨hstep, fun t h hpend => ?_⟩
  rw [hstep] at h
  split at h
  · cases h
    rfl
  · obtain ⟨-, -, hkeep, -⟩ := exec_keeps h
    simpa [hkeep] using hpend

end Sys2Proof.Machine
end

section
/-! The frames of the I2C commands: which fields their micro-ops can change. -/

namespace Sys2Proof.Machine

/-- The micro-ops on the pins alone and the delay (R84 to R89). -/
def pinOp : MicroOp → Bool
  | .sclH | .sclL | .sdaLo | .sdaHi | .sdaRel | .dly => true
  | _ => false

/-- A bus control command works the pins only (R100 to R102). -/
theorem busControl_program {i : Instr} (hi : i = .i2cInit ∨ i = .i2cStart ∨ i = .i2cStop) (p : Params) :
    ∃ μ, i.program p = some μ ∧ μ.all pinOp = true := by
  rcases hi with rfl | rfl | rfl <;> exact ⟨_, rfl, rfl⟩

/-- What a pin micro-op can change. -/
theorem runMicro_pinOp {m : MicroOp} (h : pinOp m = true) (s : State) : ∃ scl sda tr u, runMicro m s =
    { s with sclMode := scl, sdaMode := sda, trace := tr, upc := u } := by
  cases m with
  | sclH | sclL | sdaLo | sdaHi | sdaRel | dly => exact ⟨_, _, _, _, rfl⟩
  | _ => cases h

/-- Settles O45: issue, a pin micro-op or completion; the window by what every command keeps. -/
theorem busControlFrame : Obligations.BusControlFrame := by
  intro i s t hi h
  have hwindow := fun off => exec_windowRead h (off := off)
  obtain ⟨μ, hp, hpins⟩ := busControl_program hi s.params
  rcases exec_cases_of_program hp h with ⟨hs, rfl⟩ | ⟨m, hb, hm, rfl⟩ | ⟨hb, _, rfl⟩
  · simpa [hs] using hwindow
  · obtain ⟨scl, sda, tr, u, heq⟩ := runMicro_pinOp (List.all_eq_true.mp hpins m (List.mem_of_getElem? hm)) s
    rw [heq] at hwindow ⊢
    simpa [hb] using hwindow
  · simpa [hb] using hwindow

/-- The micro-ops of a byte operation: those on the bus and the two on the interrupt mask. -/
def byteOp (m : MicroOp) : Prop := busOp m = true ∨ m = .irqOff ∨ m = .irqOn

theorem byteOp_of_mem_program {i : Instr} {p : Params} {μ : List MicroOp} {m : MicroOp} (hi : i.masksIrq = true)
    (hp : i.program p = some μ) (hm : m ∈ μ) : byteOp m := by
  obtain ⟨body, rfl, hbody⟩ := masksIrq_program hi hp
  rw [List.mem_cons, List.mem_append, List.mem_singleton] at hm
  rcases hm with rfl | hm | rfl
  · exact .inr (.inl rfl)
  · exact .inl (List.all_eq_true.mp hbody m hm)
  · exact .inr (.inr rfl)

/-- What a byte operation's micro-op can change. -/
theorem runMicro_byteOp {m : MicroOp} (h : byteOp m) (s : State) : ∃ scl sda tr u acc ack feed ie saved,
    runMicro m s =
      { s with
        sclMode := scl, sdaMode := sda, trace := tr, upc := u, rdacc := acc, ackv := ack, sdaFeed := feed, ie := ie,
        ieSaved := saved } := by
  cases m with
  | sclH | sclL | sdaLo | sdaHi | sdaRel | dly | smpBit | smpAck | irqOff | irqOn =>
    exact ⟨_, _, _, _, _, _, _, _, _, rfl⟩
  | _ => simp [byteOp, busOp] at h

/-- Which of a byte operation's micro-ops write the read accumulator, the acknowledgment, the data pin and `IE_SAVED`
(R86 to R92). -/
theorem runMicro_byteOp_writers {m : MicroOp} (h : byteOp m) (s : State) :
    ((runMicro m s).rdacc = s.rdacc ∨ m = .smpBit) ∧ ((runMicro m s).ackv = s.ackv ∨ m = .smpAck) ∧
      ((runMicro m s).sdaMode = s.sdaMode ∨ writesData m = true) ∧
      (s.params.irqResume = .enable → (runMicro m s).ieSaved = s.ieSaved) := by
  cases m with
  | smpBit => exact ⟨.inr rfl, .inl rfl, .inl rfl, fun _ => rfl⟩
  | smpAck => exact ⟨.inl rfl, .inr rfl, .inl rfl, fun _ => rfl⟩
  | sdaLo | sdaHi | sdaRel => exact ⟨.inl rfl, .inl rfl, .inr rfl, fun _ => rfl⟩
  | irqOff => exact ⟨.inl rfl, .inl rfl, .inl rfl, fun he => by simp [runMicro_irqOff, State.ieSavedByOff, he]⟩
  | sclH | sclL | dly | irqOn => exact ⟨.inl rfl, .inl rfl, .inl rfl, fun _ => rfl⟩
  | _ => simp [byteOp, busOp] at h

theorem smpBit_notMem_i2cWriteByteProgram (d : Byte) : .smpBit ∉ i2cWriteByteProgram d := by
  rw [← List.count_eq_zero]
  exact i2cWriteByteProgram_countP rfl d

theorem smpAck_notMem_i2cReadByteProgram (a : Bool) : .smpAck ∉ i2cReadByteProgram a := by
  cases a <;> decide

/-- A read without acknowledgment does not touch the data pin (R99, R104). -/
theorem not_writesData_of_mem_read_nack {m : MicroOp} (hm : m ∈ i2cReadByteProgram false) : writesData m = false :=
  (by decide : ∀ m ∈ i2cReadByteProgram false, writesData m = false) m hm

/-- The fields that only one of the two byte operations writes, or only under one resume mode. -/
theorem runMicro_byteOperation_keeps {i : Instr} {p : Params} {μ : List MicroOp} {m : MicroOp}
    (hi : i.masksIrq = true) (hp : i.program p = some μ) (hm : m ∈ μ) (s : State) :
    ((∃ d, i = .i2cWriteByte d) → (runMicro m s).rdacc = s.rdacc) ∧
      ((∃ a, i = .i2cReadByte a) → (runMicro m s).ackv = s.ackv) ∧
      (i = .i2cReadByte false → (runMicro m s).sdaMode = s.sdaMode) ∧
      (s.params.irqResume = .enable → (runMicro m s).ieSaved = s.ieSaved) := by
  obtain ⟨hacc, hack, hsda, hsaved⟩ := runMicro_byteOp_writers (byteOp_of_mem_program hi hp hm) s
  refine ⟨?_, ?_, ?_, hsaved⟩
  · rintro ⟨d, rfl⟩
    cases hp
    exact hacc.resolve_right fun heq => smpBit_notMem_i2cWriteByteProgram d (heq ▸ hm)
  · rintro ⟨a, rfl⟩
    cases hp
    exact hack.resolve_right fun heq => smpAck_notMem_i2cReadByteProgram a (heq ▸ hm)
  · rintro rfl
    cases hp
    exact hsda.resolve_right (by simp [not_writesData_of_mem_read_nack hm])

/-- Settles O46: issue, a micro-op of one of the two programs or completion. -/
theorem byteOperationFrame : Obligations.ByteOperationFrame := by
  intro i s t hi h
  have hwindow := fun off => exec_windowRead h (off := off)
  have hmasks : i.masksIrq = true := by rcases hi with ⟨d, rfl⟩ | ⟨a, rfl⟩ <;> rfl
  obtain ⟨μ, hp⟩ : ∃ μ, i.program s.params = some μ := by rcases hi with ⟨d, rfl⟩ | ⟨a, rfl⟩ <;> exact ⟨_, rfl⟩
  rcases exec_cases_of_program hp h with ⟨hs, rfl⟩ | ⟨m, hb, hm, rfl⟩ | ⟨hb, _, rfl⟩
  · simpa [hs] using hwindow
  · replace hm := List.mem_of_getElem? hm
    have hkeeps := runMicro_byteOperation_keeps hmasks hp hm s
    obtain ⟨scl, sda, tr, u, acc, ack, feed, ie, saved, heq⟩ :=
      runMicro_byteOp (byteOp_of_mem_program hmasks hp hm) s
    rw [heq] at hwindow hkeeps ⊢
    simpa [hb, and_assoc] using And.intro hkeeps hwindow
  · simpa [hb] using hwindow

end Sys2Proof.Machine
end

section
/-! SUPPORT. The sequences of micro-ops (R94 to R99), each run in one record, and the byte operations' micro-programs
run from them. -/

namespace Sys2Proof.Machine

theorem micros_cons (m : MicroOp) (l : List MicroOp) (s : State) : micros (m :: l) s = micros l (runMicro m s) := rfl

@[simp] theorem micros_nil (s : State) : micros [] s = s := rfl

theorem micros_pulse (s : State) : micros pulse s =
    { s with sclMode := .driveLow, trace := s.trace ++ evPulse, upc := s.upc + 4 } := by
  ext1 <;> simp [micros, pulse, evPulse, runMicro_dly, runMicro_sclH, runMicro_sclL]

theorem micros_wbit (b : Bool) (s : State) : micros (wbit b) s =
    { s with
      sclMode := .driveLow, sdaMode := if b then .driveHigh else .driveLow, trace := s.trace ++ evWbit b,
      upc := s.upc + 5 } := by
  cases b <;> simp [wbit, evWbit, micros_cons, micros_pulse, runMicro_sdaLo, runMicro_sdaHi]

theorem micros_wlast (b : Bool) (s : State) : micros (wlast b) s =
    { s with
      sclMode := .driveLow, sdaMode := .released, trace := s.trace ++ evWlast b, upc := s.upc + 6 } := by
  cases b <;>
    simp [wlast, evWlast, micros_append, micros_cons, micros_pulse, runMicro_sdaLo, runMicro_sdaHi, runMicro_sdaRel]

theorem micros_rbit (s : State) : micros rbit s =
    { s with
      sclMode := .driveLow, rdacc := shiftIn s.rdacc (s.sdaAt 0), sdaFeed := s.sdaFeed.next,
      trace := s.trace ++ evRbit (s.sdaAt 0), upc := s.upc + 5 } := by
  simp [rbit, evRbit, micros_cons, runMicro_dly, runMicro_sclH, runMicro_sclL, runMicro_smpBit, State.sdaNow_eq_sdaAt,
    State.sdaAt]

theorem micros_acks (s : State) : micros acks s =
    { s with
      sclMode := .driveLow, ackv := s.sdaAt 0, sdaFeed := s.sdaFeed.next, trace := s.trace ++ evAcks (s.sdaAt 0),
      upc := s.upc + 4 } := by
  simp [acks, evAcks, micros_cons, runMicro_dly, runMicro_sclH, runMicro_sclL, runMicro_smpAck, State.sdaNow_eq_sdaAt,
    State.sdaAt]

theorem micros_ackt (a : Bool) (s : State) : micros (ackt a) s =
    { s with
      sclMode := .driveLow, sdaMode := if a then .released else s.sdaMode, trace := s.trace ++ evAckt a,
      upc := s.upc + if a then 6 else 4 } := by
  cases a <;> simp [ackt, evAckt, micros_append, micros_cons, micros_pulse, runMicro_sdaLo, runMicro_sdaRel]

/-- `IRQ_ON` leaves what the resume mode says of the `IE` that `IRQ_OFF` found (R92, R93). -/
theorem ieByOn_eq_ieAfterByte {s t : State} (hp : t.params = s.params) (hs : t.ieSaved = s.ieSavedByOff) :
    t.ieByOn = s.ieAfterByte := by
  unfold State.ieByOn State.ieAfterByte
  rw [hp, hs]
  cases h : s.params.irqResume <;> simp [State.ieSavedByOff, h]

/-- `IRQ_ON` at the end of a byte operation whose `IRQ_OFF` was run at s. -/
theorem runMicro_irqOn_of_saved {s t : State} (hp : t.params = s.params) (hs : t.ieSaved = s.ieSavedByOff) :
    runMicro .irqOn t =
      { t with ie := s.ieAfterByte, trace := t.trace ++ [.irq s.ieAfterByte], upc := t.upc + 1 } := by
  rw [runMicro_irqOn, ieByOn_eq_ieAfterByte hp hs]

/-! ### A write byte (R103) -/

/-- The events of a write byte up to the acknowledgment. -/
def evWriteBits (d : Byte) : List Event :=
  [.irq false] ++ evWbit (dataBit d 7) ++ evWbit (dataBit d 6) ++ evWbit (dataBit d 5) ++ evWbit (dataBit d 4) ++
    evWbit (dataBit d 3) ++ evWbit (dataBit d 2) ++ evWbit (dataBit d 1) ++ evWlast (dataBit d 0)

theorem micros_writeBits (d : Byte) (s : State) : micros (writeBits d) s =
    { s with
      ie := false, ieSaved := s.ieSavedByOff, sclMode := .driveLow, sdaMode := .released,
      trace := s.trace ++ evWriteBits d, upc := s.upc + 42 } := by
  simp only [writeBits, evWriteBits, micros_append, micros_cons, micros_nil, micros_wbit, micros_wlast,
    runMicro_irqOff, List.append_assoc]

theorem micros_i2cWriteByteProgram (d : Byte) (s : State) : micros (i2cWriteByteProgram d) s =
    { s with
      ie := s.ieAfterByte, ieSaved := s.ieSavedByOff, sclMode := .driveLow, sdaMode := .released, ackv := s.sdaAt 0,
      sdaFeed := s.sdaFeed.next, trace := s.trace ++ (evWriteBits d ++ evAcks (s.sdaAt 0) ++ [.irq s.ieAfterByte]),
      upc := s.upc + 47 } := by
  rw [i2cWriteByteProgram_eq, micros_append, micros_append, micros_writeBits, micros_acks, micros_cons, micros_nil,
    runMicro_irqOn_of_saved (s := s)]
  · simp [State.sdaAt]
  · rfl
  · rfl

/-! ### A read byte (R104) -/

/-- The state after k bit reads (R97). -/
def State.afterBits (s : State) (k : Nat) : State :=
  { s with
    sclMode := if k = 0 then s.sclMode else .driveLow
    rdacc := (List.range k).foldl (fun acc j => shiftIn acc (s.sdaAt j)) s.rdacc
    sdaFeed := s.sdaFeed.after k
    trace := s.trace ++ (List.range k).flatMap (fun j => evRbit (s.sdaAt j))
    upc := s.upc + 5 * k }

theorem micros_rbit_afterBits (s : State) (k : Nat) : micros rbit (s.afterBits k) = s.afterBits (k + 1) := by
  have hbit : (s.afterBits k).sdaAt 0 = s.sdaAt k := rfl
  rw [micros_rbit, hbit]
  simp [State.afterBits, Feed.next_after, List.range_succ, Nat.mul_succ, Nat.add_assoc]

theorem micros_rbits (s : State) (k : Nat) : micros (List.replicate k rbit).flatten s = s.afterBits k := by
  induction k with
  | zero => simp [State.afterBits, Feed.after]
  | succ k ih =>
    rw [List.replicate_succ', List.flatten_append, micros_append, ih, List.flatten_singleton, micros_rbit_afterBits]

theorem i2cReadByteProgram_eq (a : Bool) :
    i2cReadByteProgram a = .irqOff :: ((List.replicate 8 rbit).flatten ++ (ackt a ++ [.irqOn])) := by
  cases a <;> rfl

theorem sampledByte_getLsbD (s : State) {j : Nat} (hj : j < 8) : s.sampledByte.getLsbD j = s.sdaAt (7 - j) := by
  unfold State.sampledByte
  interval_cases j <;> simp only [BitVec.getLsbD_append, BitVec.getLsbD_ofBool] <;> simp

theorem shiftIn_getLsbD (acc : Byte) (v : Bool) (j : Nat) :
    (shiftIn acc v).getLsbD j = if j = 0 then v else decide (j < 8) && acc.getLsbD (j - 1) := by
  rw [shiftIn, BitVec.getLsbD_append]
  rcases j with _ | j
  · simp
  · simp [Nat.succ_lt_succ_iff]

theorem afterBits_rdacc_succ (s : State) (k : Nat) :
    (s.afterBits (k + 1)).rdacc = shiftIn (s.afterBits k).rdacc (s.sdaAt k) := by
  simp [State.afterBits, List.range_succ]

/-- After k reads bit j of the accumulator is the sample made j reads before the last. -/
theorem afterBits_rdacc_getLsbD (s : State) {j k : Nat} (hjk : j < k) (hj : j < 8) :
    (s.afterBits k).rdacc.getLsbD j = s.sdaAt (k - 1 - j) := by
  induction k generalizing j with
  | zero => simp at hjk
  | succ k ih =>
    rw [afterBits_rdacc_succ, shiftIn_getLsbD]
    rcases j with _ | j
    · simp
    · rw [if_neg (Nat.succ_ne_zero j), decide_eq_true hj, Bool.true_and, Nat.add_sub_cancel, ih (by omega) (by omega)]
      congr 1
      omega

theorem afterBits_eight_rdacc (s : State) : (s.afterBits 8).rdacc = s.sampledByte :=
  BitVec.eq_of_getLsbD_eq fun j hj => by
    rw [afterBits_rdacc_getLsbD s hj hj, sampledByte_getLsbD s hj]

theorem micros_i2cReadByteProgram (a : Bool) (s : State) : micros (i2cReadByteProgram a) s =
    { s with
      ie := s.ieAfterByte, ieSaved := s.ieSavedByOff, sclMode := .driveLow, rdacc := s.sampledByte,
      sdaMode := if a then .released else s.sdaMode, sdaFeed := s.sdaFeed.after 8,
      trace := s.trace ++ ([.irq false] ++ (List.range 8).flatMap (fun j => evRbit (s.sdaAt j)) ++ evAckt a ++
        [.irq s.ieAfterByte]),
      upc := s.upc + if a then 48 else 46 } := by
  have hbits : ((runMicro .irqOff s).afterBits 8).rdacc = s.sampledByte := afterBits_eight_rdacc _
  rw [i2cReadByteProgram_eq, micros_cons, micros_append, micros_append, micros_rbits, micros_ackt, micros_cons,
    micros_nil, runMicro_irqOn_of_saved (s := s), hbits]
  · cases a <;> simp [State.afterBits, runMicro_irqOff, State.sdaAt]
  · rfl
  · rfl

end Sys2Proof.Machine
end

section
/-! The statements about whole runs of the I2C commands. -/

namespace Sys2Proof.Machine

/-- Settles O27: runs of commands without waits, of four micro-ops at most, compared field by field. -/
theorem busControlCommandsRun : Obligations.BusControlCommandsRun := by
  refine ⟨fun s hs => ?_, fun s hs => ?_, fun s hs => ?_⟩
  · refine (execRun_whole (i := .i2cInit) hs rfl (by decide) rfl).trans (congrArg _ ?_)
    ext1 <;> simp [i2cInitProgram, micros_cons, runMicro_sclH, runMicro_sdaRel, Instr.resultOf, zeroResult,
      Instr.opcode, Instr.argument]
  · refine (execRun_whole (i := .i2cStart) hs rfl (by decide) rfl).trans (congrArg _ ?_)
    ext1 <;> simp [i2cStartProgram, micros_cons, runMicro_sclH, runMicro_sdaLo, runMicro_dly, runMicro_sclL,
      Instr.resultOf, zeroResult, Instr.opcode, Instr.argument]
  · refine (execRun_whole (i := .i2cStop) hs rfl (by decide) rfl).trans (congrArg _ ?_)
    ext1 <;> simp [i2cStopProgram, micros_cons, runMicro_sclH, runMicro_sdaLo, runMicro_dly, runMicro_sdaHi,
      Instr.resultOf, zeroResult, Instr.opcode, Instr.argument]

/-! An issue draws nothing and leaves `IE`. -/

@[simp] theorem State.issue_sdaAt (s : State) (o : Byte) (a : Word) (k : Nat) : (s.issue o a).sdaAt k = s.sdaAt k := rfl
@[simp] theorem State.issue_ieSavedByOff (s : State) (o : Byte) (a : Word) :
    (s.issue o a).ieSavedByOff = s.ieSavedByOff := rfl
@[simp] theorem State.issue_ieAfterByte (s : State) (o : Byte) (a : Word) :
    (s.issue o a).ieAfterByte = s.ieAfterByte := rfl
@[simp] theorem State.issue_sampledByte (s : State) (o : Byte) (a : Word) :
    (s.issue o a).sampledByte = s.sampledByte := rfl

/-- `RESULT` of `I2C_WRITE_BYTE` as a number (R58). -/
theorem ackResult_eq (s : State) : ackResult s = if s.ackv then 0#32 else 1#32 := by
  cases h : s.ackv <;> simp [ackResult, h]

/-- A byte operation, from its issue to its completion. -/
theorem execRun_byteOperation {i : Instr} {μ : List MicroOp} {s : State} {n : Nat} (hi : i.masksIrq = true)
    (hs : s.seqState = .idle) (hp : i.program s.params = some μ) (hn : n = μ.length + 2) :
    execRun i n s = .next ((micros μ (s.issue i.opcode i.argument)).complete
      (i.resultOf (micros μ (s.issue i.opcode i.argument)))) :=
  execRun_whole hs hp (straight_of_masksIrq hi hp) hn

/-- Settles O28: the micro-program's record, from the issue, then completion. -/
theorem writeByteRun : Obligations.WriteByteRun := by
  intro s d hs
  have hn : 49 = (i2cWriteByteProgram d).length + 2 := by rw [i2cWriteByteProgram_length]
  rw [execRun_byteOperation (i := .i2cWriteByte d) rfl hs rfl hn, micros_i2cWriteByteProgram]
  refine congrArg _ ?_
  ext1 <;> simp [Instr.resultOf, ackResult_eq, evWriteBits, dataBit, Instr.opcode, Instr.argument]

/-- Settles O29: the micro-program's record, from the issue, then completion. -/
theorem readByteRun : Obligations.ReadByteRun := by
  intro s a hs
  have hn : (if a then 50 else 48) = (i2cReadByteProgram a).length + 2 := by cases a <;> rfl
  rw [execRun_byteOperation (i := .i2cReadByte a) rfl hs rfl hn, micros_i2cReadByteProgram]
  refine congrArg _ ?_
  ext1 <;> simp [Instr.resultOf, byteResult, List.range_succ, Instr.opcode, Instr.argument]

end Sys2Proof.Machine
end

section
/-! SUPPORT. The operand forms of the sleep commands (R109, R122) and the polls of `PIT_SYNC` (R111). -/

namespace Sys2Proof.Machine

/-- The index an interval selects (R109). -/
theorem clamp_val (x : Word) : (clamp x).val = if x.toNat ≤ 13 then x.toNat else 8 := by
  unfold clamp
  by_cases h : x.toNat < Config.nIntervals
  · rw [dif_pos h, if_pos (Nat.le_of_lt_succ h)]
  · rw [dif_neg h, if_neg (fun hle => h (Nat.lt_succ_of_le hle))]
    rfl

/-- An interval out of range selects the 1-second setting (R109). -/
theorem clamp_of_out_of_range {x : Word} (h : 14 ≤ x.toNat) : clamp x = 8 :=
  Fin.ext (by rw [clamp_val, if_neg (by omega)]; rfl)

/-- A count of at least 1 is itself (R122). -/
theorem cycles_of_pos {p : Params} {n : Word} (h : 1 ≤ n.toNat) : cycles p n = some n.toNat := by
  refine if_neg ?_
  rintro rfl
  simp at h

/-- The next synchronization poll is poll 0 from now. -/
theorem State.syncNow_eq_syncAt (s : State) : s.syncNow = s.syncAt 0 := rfl

/-- The state after k polls that answered "not synchronized": they change nothing but the trace and the feed (R111). -/
def State.afterPolls (s : State) (k : Nat) : State :=
  { s with syncFeed := s.syncFeed.after k, trace := s.trace ++ List.replicate k (.pitSync true) }

/-- One more poll. -/
theorem State.afterPolls_succ (s : State) (k : Nat) : s.afterPolls (k + 1) =
    { s.afterPolls k with
      syncFeed := (s.afterPolls k).syncFeed.next, trace := (s.afterPolls k).trace ++ [.pitSync true] } := by
  simp [afterPolls, Feed.next_after, List.replicate_succ']

section Poll

variable {i : Instr} {μ : List MicroOp} {s : State} (hb : s.seqState = .busy) (hp : i.program s.params = some μ)
  (hm : μ[s.upc]? = some .pitSync)
include hb hp hm

/-- The step at a `PIT_SYNC` after n polls that answered "not synchronized" is the next poll (R111). -/
theorem exec_pitSync_afterPolls (n : Nat) :
    exec i (s.afterPolls n) = .next { s.afterPolls n with
      syncFeed := (s.afterPolls n).syncFeed.next, trace := (s.afterPolls n).trace ++ [.pitSync (s.syncAt n)],
      upc := if s.syncAt n then s.upc else s.upc + 1 } := by
  rw [exec_micro (s := s.afterPolls n) hb hp hm, runMicro_pitSync]
  rfl

/-- The command polls, step after step, while the timer is not synchronized (R111, R124). -/
theorem execRun_unsynchronized (n k : Nat) (hw : ∀ j < n, s.syncAt j = true) :
    execRun i (n + k) s = execRun i k (s.afterPolls n) := by
  induction n generalizing k with
  | zero => simp [State.afterPolls, Feed.after]
  | succ n ih =>
    have hstep : exec i (s.afterPolls n) = .next (s.afterPolls (n + 1)) := by
      rw [exec_pitSync_afterPolls hb hp hm, hw n (Nat.lt_succ_self n), State.afterPolls_succ]
      rfl
    rw [Nat.add_right_comm, Nat.add_assoc, ih (k + 1) fun j hj => hw j (Nat.lt_succ_of_lt hj), execRun_succ _ hstep]

/-- The polls end at the first that answers "synchronized". -/
theorem execRun_pitSync (n k : Nat) (hw : ∀ j < n, s.syncAt j = true) (hend : s.syncAt n = false) :
    execRun i (n + (k + 1)) s = execRun i k { s with
      syncFeed := s.syncFeed.after (n + 1), upc := s.upc + 1,
      trace := s.trace ++ (List.replicate n (.pitSync true) ++ [.pitSync false]) } := by
  have hstep := exec_pitSync_afterPolls hb hp hm n
  rw [hend] at hstep
  rw [execRun_unsynchronized hb hp hm n (k + 1) hw, execRun_succ _ hstep, ← Feed.next_after, ← List.append_assoc]
  rfl

end Poll

end Sys2Proof.Machine
end

section
/-! The statements about the operands of the sleep commands, their micro-ops and the run of `SLEEP_CONFIG`. -/

namespace Sys2Proof.Machine

/-- Settles O5: the operand forms by their cases; the refused count is a command error of the host's write. -/
theorem operandForms : Obligations.OperandForms := by
  refine ⟨clamp_val, fun p n h => cycles_of_pos h, fun p hz => ?_, fun p hz => ⟨?_, ?_, rfl⟩,
    fun s rest hh hl harg hz => ?_, fun p hz => ?_⟩
  · simp [cycles, hz]
  · simp [cycles, hz]
  · rw [hz]
    rfl
  · have hd : decode s.params.sleepZero 0x31#8 s.arg = .error .zeroCycles := by
      rw [harg, hz]
      rfl
    rw [step_writeOp_error hh hl hd]
    simp [State.raiseCmdError, State.writeOp, State.emit, errCode]
  · simp [cycles, hz]

/-- Settles O24: each micro-op's record. -/
theorem sleepConfigMicroOps : Obligations.SleepConfigMicroOps := by
  refine fun i μ s hb hp => ⟨fun hm => ?_, fun hm => ?_, fun hm => ?_, fun k hm => ?_, fun hm => ?_, fun hm => ?_⟩
  · rw [exec_micro hb hp hm, runMicro_pitClk]
  · rw [exec_micro hb hp hm, runMicro_pitSync, State.syncNow_eq_syncAt]
  · rw [exec_micro hb hp hm, runMicro_pitIeSet]
  · rw [exec_micro hb hp hm, runMicro_pitPer]
  · rw [exec_micro hb hp hm, runMicro_pullupsOn]
  · rw [exec_micro hb hp hm, runMicro_slpEnable]

/-- Settles O25: each micro-op's record; the hold of `SLP_WAIT` is the record with `ASLEEP` already set. -/
theorem sleepMicroOps : Obligations.SleepMicroOps := by
  refine fun i μ s hb hp => ⟨fun hm => ?_, fun hm => ?_, fun hm => ?_, fun hm => ?_⟩
  · rw [exec_micro hb hp hm, runMicro_adcOff]
  · rw [exec_micro hb hp hm, runMicro_smodePd]
  · rw [exec_micro hb hp hm, runMicro_adcOn]
  · rw [exec_micro hb hp hm, runMicro_slpWait]

/-- `SLEEP_CONFIG` from the end of its polls to its completion (R120). -/
theorem execRun_sleepConfig_synchronized {x : Word} {s : State} (hb : s.seqState = .busy) (hu : s.upc = 2) :
    execRun (.sleepConfig x) 5 s = .next { s with
      seqState := .idle, upc := 6, result := 0#32, pitIe := true, pitPeriod := some (clamp x), pullups := true,
      slpEn := true,
      trace := s.trace ++ [.pitIe, .pitPer (clamp x), .pullups, .slpEn, .done 0#32] } := by
  obtain ⟨hrest, hb', -, hend⟩ := execRun_micros (i := .sleepConfig x) (s := s)
    [.pitIeSet, .pitPer (clamp x), .pullupsOn, .slpEnable] 1 hb rfl (by rw [hu]; rfl) (List.all_eq_true.mp rfl)
    (by simp [hu, sleepConfigProgram])
  rw [show 5 = [MicroOp.pitIeSet, .pitPer (clamp x), .pullupsOn, .slpEnable].length + 1 from rfl, hrest,
    execRun_succ 0 (exec_done hb' rfl hend)]
  simp [execRun, micros_cons, runMicro_pitIeSet, runMicro_pitPer, runMicro_pullupsOn, runMicro_slpEnable,
    State.complete_eq, Instr.resultOf, zeroResult, hu]

/-- Settles O33: issue, `PIT_CLK`, n polls that do not end and the one that does, the four micro-ops that follow, and
completion. -/
theorem sleepConfigRun : Obligations.SleepConfigRun := by
  intro s x n k hs hk hw hend
  obtain rfl : k = clamp x := Fin.ext (hk.trans (clamp_val x).symm)
  have hissue : exec (.sleepConfig x) s = .next (s.issue 0x30#8 x) := exec_idle hs rfl
  have hclk : exec (.sleepConfig x) (s.issue 0x30#8 x) = .next (runMicro .pitClk (s.issue 0x30#8 x)) :=
    exec_micro rfl rfl rfl
  have hpoll := execRun_pitSync (i := .sleepConfig x) (s := runMicro .pitClk (s.issue 0x30#8 x)) rfl rfl rfl n 5 hw hend
  rw [execRun_succ (n + 7) hissue, execRun_succ (n + 6) hclk, hpoll, execRun_sleepConfig_synchronized rfl rfl]
  simp [runMicro_pitClk, State.issue_eq]

/-- While it is busy a `SLEEP_CONFIG` depends on its interval through the index only (R109, R120). -/
theorem exec_sleepConfig_of_clamp_eq {x y : Word} {s : State} (hb : s.seqState = .busy) (h : clamp x = clamp y) :
    exec (.sleepConfig x) s = exec (.sleepConfig y) s := by
  have hp : ∀ z, clamp z = clamp y → (Instr.sleepConfig z).program s.params = some (sleepConfigProgram y) := by
    intro z hz
    rw [Instr.program, sleepConfigProgram, hz, sleepConfigProgram]
  rw [exec_busy hb (hp x h), exec_busy hb (hp y rfl)]
  rfl

/-- Settles O34: the two programs are one where the indices agree; 13 and 8 are two indices. -/
theorem outOfRangeIntervalsAreIndexEight : Obligations.OutOfRangeIntervalsAreIndexEight := by
  refine ⟨fun s x hx hb => exec_sleepConfig_of_clamp_eq hb ?_, fun s hb hu heq => ?_⟩
  · rw [clamp_of_out_of_range hx]
    rfl
  · have hper : ∀ x : Word, exec (.sleepConfig x) s = .next (runMicro (.pitPer (clamp x)) s) := by
      intro x
      exact exec_micro hb rfl (by rw [hu]; rfl)
    rw [hper, hper, Host.Outcome.next.injEq, runMicro_pitPer, runMicro_pitPer] at heq
    have hperiod : some (clamp 13#32) = some (clamp 8#32) := congrArg State.pitPeriod heq
    revert hperiod
    decide

end Sys2Proof.Machine
end

section
/-! The frames of the sleep commands, and that what they set is never undone. -/

namespace Sys2Proof.Machine

/-- What a micro-op of `SLEEP_CONFIG` can change (R110 to R115). -/
theorem runMicro_of_mem_sleepConfigProgram {x : Word} {m : MicroOp} (hm : m ∈ sleepConfigProgram x) (s : State) :
    ∃ clk ie per pull en feed tr u, runMicro m s =
      { s with
        pitClksel := clk, pitIe := ie, pitPeriod := per, pullups := pull, slpEn := en, syncFeed := feed, trace := tr,
        upc := u } := by
  have hmem : m = .pitClk ∨ m = .pitSync ∨ m = .pitIeSet ∨ m = .pitPer (clamp x) ∨ m = .pullupsOn ∨
      m = .slpEnable := by simpa [sleepConfigProgram] using hm
  rcases hmem with rfl | rfl | rfl | rfl | rfl | rfl
  case inr.inl => exact ⟨_, _, _, _, _, _, _, _, runMicro_pitSync s⟩
  all_goals exact ⟨_, _, _, _, _, _, _, _, rfl⟩

/-- What a micro-op of `SLEEP` can change (R116 to R119): it may set `ASLEEP` and never clears it. -/
theorem runMicro_of_mem_sleepProgram {k : Nat} {m : MicroOp} (hm : m ∈ sleepProgram k) (s : State) :
    ∃ adc mode sleep tr u, (s.asleep = true → sleep = true) ∧ runMicro m s =
      { s with adcEn := adc, slpMode := mode, asleep := sleep, trace := tr, upc := u } := by
  have hmem : m = .adcOff ∨ m = .smodePd ∨ m = .slpWait ∨ m = .adcOn := by
    simp only [sleepProgram, List.mem_append, List.mem_cons, List.mem_replicate, List.not_mem_nil, or_false] at hm
    tauto
  rcases hmem with rfl | rfl | rfl | rfl
  case inr.inr.inl => exact ⟨_, _, true, _, _, fun _ => rfl, runMicro_slpWait s⟩
  all_goals exact ⟨_, _, s.asleep, _, _, id, rfl⟩

/-- Settles O47: each command's issue, its micro-ops and its completion, and the command error of a refused count; the
window by what every command keeps. -/
theorem sleepCommandsFrame : Obligations.SleepCommandsFrame := by
  refine ⟨fun x s t h => ?_, fun n s t h => ?_⟩
  · have hwindow := fun off => exec_windowRead h (off := off)
    rcases exec_cases_of_program (i := .sleepConfig x) rfl h with ⟨hs, rfl⟩ | ⟨m, hb, hm, rfl⟩ | ⟨hb, _, rfl⟩
    · simpa [hs] using hwindow
    · obtain ⟨clk, ie, per, pull, en, feed, tr, u, heq⟩ :=
        runMicro_of_mem_sleepConfigProgram (List.mem_of_getElem? hm) s
      rw [heq] at hwindow ⊢
      simpa [hb] using hwindow
    · simpa [hb] using hwindow
  · have hwindow := fun off => exec_windowRead h (off := off)
    rcases exec_cases h with ⟨_, hs, _, rfl⟩ | ⟨_, m, hb, hp, hm, rfl⟩ | ⟨_, hb, _, _, rfl⟩ | ⟨hs, _, rfl⟩
    · simpa [hs] using hwindow
    · obtain ⟨k, -, rfl⟩ := Option.map_eq_some_iff.mp hp
      obtain ⟨adc, mode, sleep, tr, u, hasleep, heq⟩ := runMicro_of_mem_sleepProgram (List.mem_of_getElem? hm) s
      rw [heq] at hwindow ⊢
      simpa [hb] using And.intro hasleep hwindow
    · simpa [hb] using hwindow
    · simpa [hs] using hwindow

/-- Only `PULLUPS_ON` changes `PULLUPS` (R114). -/
theorem runMicro_pullups (m : MicroOp) (s : State) : (runMicro m s).pullups = s.pullups ∨ m = .pullupsOn := by
  cases m with
  | pullupsOn => exact .inr rfl
  | msWait d => exact .inl (by rw [runMicro_msWait])
  | msPoll d => exact .inl (by rw [runMicro_msPoll])
  | pitSync => exact .inl (by rw [runMicro_pitSync])
  | slpWait => exact .inl (by rw [runMicro_slpWait])
  | _ => exact .inl rfl

/-- `ADC_OFF` and `ADC_ON` stand in `SLEEP` only (R121). -/
theorem sleep_of_mem_program {i : Instr} {p : Params} {μ : List MicroOp} {m : MicroOp} (hp : i.program p = some μ)
    (hmem : m ∈ μ) (hm : m = .adcOff ∨ m = .adcOn) : ∃ n, i = .sleep n := by
  cases i with
  | sleep n => exact ⟨n, rfl⟩
  | i2cWriteByte _ | i2cReadByte _ =>
    have hbyte := byteOp_of_mem_program rfl hp hmem
    rcases hm with rfl | rfl <;> simp [byteOp, busOp] at hbyte
  | _ =>
    cases hp
    rcases hm with rfl | rfl <;>
      simp [delayBlockingProgram, delayPollProgram, i2cInitProgram, i2cStartProgram, i2cStopProgram,
        sleepConfigProgram] at hmem

/-- The values the sleep unit's setup takes, each once set (R110, R112, R114, R115, R117). -/
def State.setupKept (s t : State) : Prop :=
  (s.pullups = true → t.pullups = true) ∧ (s.pitClksel = .lowfreqInternal → t.pitClksel = .lowfreqInternal) ∧
  (s.pitIe = true → t.pitIe = true) ∧ (s.slpEn = true → t.slpEn = true) ∧
  (s.slpMode = .powerDown → t.slpMode = .powerDown)

/-- A field keeps a value c that is all its one writer sets. -/
theorem kept_of_writer {α : Type} {a b c : α} {writes : Prop} (h : b = a ∨ writes) (hsets : writes → b = c) :
    a = c → b = c :=
  h.elim Eq.trans fun hw _ => hsets hw

/-- Each of those fields has one micro-op that writes it, and that one sets it. -/
theorem runMicro_setupKept (m : MicroOp) (s : State) : s.setupKept (runMicro m s) := by
  have hw := runMicro_sleepUnitWriters m s
  exact ⟨kept_of_writer (runMicro_pullups m s) (by rintro rfl; rfl), kept_of_writer hw.pitClksel (by rintro rfl; rfl),
    kept_of_writer hw.pitIe (by rintro rfl; rfl), kept_of_writer hw.slpEn (by rintro rfl; rfl),
    kept_of_writer hw.slpMode (by rintro rfl; rfl)⟩

/-- Settles O52: of all steps only a micro-op writes these fields; `PIT_PER` stands in `SLEEP_CONFIG` and the
converter's two micro-ops in `SLEEP`. -/
theorem sleepSetupIsNeverUndone : Obligations.SleepSetupIsNeverUndone := by
  intro s t h
  cases stepForm_of_step h with
  | @micro i μ m hs hc hp hm =>
    have hw := runMicro_sleepUnitWriters m s.tickChosen
    have hper : (runMicro m s.tickChosen).pitPeriod ≠ s.pitPeriod →
        (runMicro m s.tickChosen).pitPeriod ≠ none ∧ s.seqTurn ∧ ∃ x, s.current = some (.sleepConfig x) := by
      intro hne
      obtain ⟨k, rfl⟩ := hw.pitPeriod.resolve_left (by simpa using hne)
      obtain ⟨-, x, rfl⟩ := pitPer_index hp hm
      exact ⟨Option.some_ne_none k, hs, x, hc⟩
    have hadc : (runMicro m s.tickChosen).adcEn ≠ s.adcEn → s.seqTurn ∧ ∃ n, s.current = some (.sleep n) := by
      intro hne
      obtain ⟨n, rfl⟩ := sleep_of_mem_program hp (List.mem_of_getElem? hm)
        (hw.adcEn.resolve_left (by simpa using hne))
      exact ⟨hs, n, hc⟩
    obtain ⟨hpull, hclk, hie, hen, hmode⟩ : s.setupKept (runMicro m s.tickChosen) := by
      simpa [State.setupKept] using runMicro_setupKept m s.tickChosen
    exact ⟨hpull, hclk, hie, hen, hmode, hper, hadc⟩
  | _ => simp

end Sys2Proof.Machine
end

section
/-! SUPPORT. A running `SLEEP` under a running timer with both interrupt enables: one rule per kind of step, then the
hold, the wake, the sleep-and-wake cycles, and the command from its issue to its completion. -/

namespace Sys2Proof.Machine

theorem stepRun_add {s t : State} {a : Nat} (b : Nat) (h : stepRun a s = .next t) :
    stepRun (a + b) s = stepRun b t := by
  induction a generalizing s with
  | zero =>
    cases h
    rw [Nat.zero_add]
  | succ a ih =>
    rw [Nat.add_right_comm, stepRun]
    rw [stepRun] at h
    split at h
    · exact ih h
    · cases h
    · cases h

/-- One more step after a run. -/
theorem stepRun_snoc {s t : State} {a : Nat} (h : stepRun a s = .next t) : stepRun (a + 1) s = step t := by
  rw [stepRun_add 1 h, stepRun]
  cases step t <;> rfl

theorem stepRun_two {s t u : State} (hst : step s = .next t) (htu : step t = .next u) : stepRun 2 s = .next u := by
  rw [stepRun_succ 1 hst, stepRun_succ 0 htu, stepRun]

/-- Choices of the tick are counted from the feed, whatever else changed. -/
theorem tickAt_of_tickFeed {s t : State} {a : Nat} (h : t.tickFeed = s.tickFeed.after a) (b : Nat) :
    t.tickAt b = s.tickAt (a + b) := by
  rw [State.tickAt, h, Feed.after_after]
  rfl

/-- A `SLEEP` of k cycles is running, the timer runs with both interrupt enables set, and nothing is pending. -/
structure State.RunsSleep (s : State) (n : Word) (k : Nat) : Prop where
  busy : s.seqState = .busy
  current : s.current = some (.sleep n)
  cycles : cycles s.params n = some k
  running : s.pitRunning = true
  ie : s.ie = true
  pitIe : s.pitIe = true
  notPending : s.pitPend = false

section RunsSleep

variable {s : State} {n : Word} {k : Nat}

/-- It does not speak of what the micro-ops of a `SLEEP` and the wake change. -/
theorem State.RunsSleep.of_changes (h : s.RunsSleep n k) (adc : Bool) (mode : SleepMode) (sleep : Bool) (u : Nat)
    (feed : Feed Bool) (tr : List Event) :
    ({ s with adcEn := adc, slpMode := mode, asleep := sleep, upc := u, tickFeed := feed, trace := tr } :
      State).RunsSleep n k :=
  ⟨h.busy, h.current, h.cycles, h.running, h.ie, h.pitIe, h.notPending⟩

theorem State.RunsSleep.program (h : s.RunsSleep n k) : (Instr.sleep n).program s.params = some (sleepProgram k) := by
  simp [Instr.program, h.cycles]

/-- Without a tick the step is the running `SLEEP`'s. -/
theorem step_runsSleep (h : s.RunsSleep n k) (ht : s.tickAt 0 = false) :
    step s = exec (.sleep n) { s with tickFeed := s.tickFeed.next } := by
  have hturn : s.seqTurn :=
    ⟨(ticksNow_of_running h.running).trans ht, isrEnabled_eq_false (.inr (.inr h.notPending)), h.busy⟩
  rw [step_seq hturn, seqStep_current (by simpa using h.current), tickChosen_of_running h.running]

theorem step_runsSleep_micro {m : MicroOp} (h : s.RunsSleep n k) (ht : s.tickAt 0 = false)
    (hm : (sleepProgram k)[s.upc]? = some m) :
    step s = .next (runMicro m { s with tickFeed := s.tickFeed.next }) :=
  (step_runsSleep h ht).trans (exec_micro h.busy h.program hm)

theorem step_runsSleep_done (h : s.RunsSleep n k) (ht : s.tickAt 0 = false) (hu : s.upc = k + 3) :
    step s = .next (State.complete { s with tickFeed := s.tickFeed.next } 0#32) :=
  (step_runsSleep h ht).trans (exec_done h.busy h.program (hu.trans (sleepProgram_length k).symm))

/-- A tick of the running timer. -/
theorem step_running_tick (hrun : s.pitRunning = true) (ht : s.tickAt 0 = true) :
    step s = .next { s with tickFeed := s.tickFeed.next, pitPend := true, trace := s.trace ++ [.tick] } := by
  rw [step_tick ((ticksNow_of_running hrun).trans ht), tickChosen_of_running hrun]
  rfl

/-- The ISR while the timer runs. -/
theorem step_running_isr (hrun : s.pitRunning = true) (ht : s.tickAt 0 = false) (hi : s.isrEnabled = true) :
    step s = .next (State.takeIsr { s with tickFeed := s.tickFeed.next }) := by
  rw [step_isr ⟨(ticksNow_of_running hrun).trans ht, hi⟩, tickChosen_of_running hrun]

/-- Asleep and without a tick the machine holds: a step uses up the tick's choice only (R118). -/
theorem stepRun_hold (h : s.RunsSleep n k) (ha : s.asleep = true) (h2 : 2 ≤ s.upc) (hlt : s.upc < k + 2) (l : Nat)
    (ht : ∀ i < l, s.tickAt i = false) : stepRun l s = .next { s with tickFeed := s.tickFeed.after l } := by
  induction l with
  | zero => rfl
  | succ l ih =>
    have hrun := ih fun i hi => ht i (Nat.lt_succ_of_lt hi)
    have hnow : ({ s with tickFeed := s.tickFeed.after l } : State).tickAt 0 = false :=
      (tickAt_of_tickFeed rfl 0).trans (ht l (Nat.lt_succ_self l))
    rw [stepRun_snoc hrun, ← Feed.next_after]
    exact (step_runsSleep_micro (h.of_changes _ _ _ _ _ _) hnow (sleepProgram_slpWait_iff.mpr ⟨h2, hlt⟩)).trans
      (congrArg _ (runMicro_slpWait_asleep ha))

/-- Asleep, a tick and then the ISR wake the sequencer past its `SLP_WAIT` (R131, R136). -/
theorem stepRun_wake (h : s.RunsSleep n k) (ha : s.asleep = true) (ht : s.tickAt 0 = true) (ht' : s.tickAt 1 = false) :
    stepRun 2 s = .next { s with
      asleep := false, upc := s.upc + 1, pitPend := false, tickFeed := s.tickFeed.after 2,
      trace := s.trace ++ [.tick, .isr, .wake] } := by
  have hisr := step_running_isr
    (s := { s with tickFeed := s.tickFeed.next, pitPend := true, trace := s.trace ++ [.tick] }) h.running ht'
    (by simp [State.isrEnabled, h.ie, h.pitIe])
  rw [stepRun_two (step_running_tick h.running ht) hisr, State.takeIsr_eq]
  simp [ha, Feed.after]

/-- One cycle: to sleep, the tick, and the wake (R118, R121). -/
theorem stepRun_cycle (h : s.RunsSleep n k) (ha : s.asleep = false) (h2 : 2 ≤ s.upc) (hlt : s.upc < k + 2)
    (ht : ∀ j < 3, s.tickAt j = decide (j = 1)) :
    stepRun 3 s = .next { s with
      upc := s.upc + 1, tickFeed := s.tickFeed.after 3, trace := s.trace ++ [.sleep, .tick, .isr, .wake] } := by
  have hsleep : step s = .next { s with
      asleep := true, tickFeed := s.tickFeed.next, trace := s.trace ++ [.sleep] } :=
    (step_runsSleep_micro h (ht 0 (by decide)) (sleepProgram_slpWait_iff.mpr ⟨h2, hlt⟩)).trans
      (congrArg _ (runMicro_slpWait_awake ha))
  have hwake := stepRun_wake
    (s := { s with asleep := true, tickFeed := s.tickFeed.next, trace := s.trace ++ [.sleep] })
    (h.of_changes _ _ _ _ _ _) rfl (ht 1 (by decide)) (ht 2 (by decide))
  rw [stepRun_succ 2 hsleep, hwake]
  simp [ha, h.notPending, Feed.after]

/-- The state after c cycles. -/
def State.afterCycles (s : State) (c : Nat) : State :=
  { s with
    upc := s.upc + c, tickFeed := s.tickFeed.after (3 * c),
    trace := s.trace ++ (List.replicate c [.sleep, .tick, .isr, .wake]).flatten }

/-- One more cycle. -/
theorem State.afterCycles_succ (s : State) (c : Nat) : s.afterCycles (c + 1) =
    { s.afterCycles c with
      upc := (s.afterCycles c).upc + 1, tickFeed := (s.afterCycles c).tickFeed.after 3,
      trace := (s.afterCycles c).trace ++ [.sleep, .tick, .isr, .wake] } := by
  simp [afterCycles, Feed.after_after, List.replicate_succ', Nat.mul_succ, Nat.add_assoc]

/-- Cycles, each with its tick at its second step. -/
theorem stepRun_cycles (h : s.RunsSleep n k) (ha : s.asleep = false) (h2 : 2 ≤ s.upc) (c : Nat)
    (hle : s.upc + c ≤ k + 2) (ht : ∀ j < 3 * c, s.tickAt j = decide (j % 3 = 1)) :
    stepRun (3 * c) s = .next (s.afterCycles c) := by
  induction c with
  | zero => simp [stepRun, State.afterCycles, Feed.after]
  | succ c ih =>
    have hrun := ih (by omega) fun j hj => ht j (by omega)
    have hnow : ∀ j < 3, (s.afterCycles c).tickAt j = decide (j = 1) := by
      intro j hj
      rw [tickAt_of_tickFeed (s := s) rfl, ht _ (by omega), decide_eq_decide]
      omega
    have hcycle := stepRun_cycle (s := s.afterCycles c) (h.of_changes _ _ _ _ _ _) ha
      (h2.trans (Nat.le_add_right _ _)) (by show s.upc + c < k + 2; omega) hnow
    rw [Nat.mul_succ, stepRun_add 3 hrun, hcycle, State.afterCycles_succ]

end RunsSleep

/-! ### A whole `SLEEP` -/

/-- A count with cycles is decoded, not refused (R63, R122). -/
theorem decode_sleep_of_cycles {p : Params} {n : Word} {k : Nat} (hk : cycles p n = some k) :
    decode p.sleepZero 0x31#8 n = .ok (.sleep n) := by
  have hne : ¬(n = 0#32 ∧ p.sleepZero = .refuse) := by
    rintro ⟨rfl, hz⟩
    simp [cycles, hz] at hk
  simp [decode, hne]

/-- The state in which the host's write of `OP` has issued a `SLEEP` while the timer runs. -/
def State.sleepIssued (s : State) (n : Word) (rest : List HostAction) : State :=
  (State.writeOp { s with script := rest, tickFeed := s.tickFeed.next } 0x31#8).issue 0x31#8 n

/-- The host's write of `OP` issues a `SLEEP` whose count has cycles (R56). -/
theorem step_issues_sleep {s : State} {n : Word} {k : Nat} {rest : List HostAction} (hs : s.seqState = .idle)
    (hrun : s.pitRunning = true) (hpend : s.pitPend = false) (harg : s.arg = n)
    (hl : s.script = .write 1 0x4#4 0x31#8 :: rest) (hk : cycles s.params n = some k) (ht : s.tickAt 0 = false) :
    step s = .next (s.sleepIssued n rest) := by
  have hturn : s.hostTurn :=
    ⟨(ticksNow_of_running hrun).trans ht, isrEnabled_eq_false (.inr (.inr hpend)), hs⟩
  have hd : decode s.params.sleepZero 0x31#8 s.arg = .ok (.sleep n) := by
    rw [harg]
    exact decode_sleep_of_cycles hk
  have hp : (Instr.sleep n).program s.params = some (sleepProgram k) := by simp [Instr.program, hk]
  rw [step_writeOp_ok hturn hl hd, tickChosen_of_running hrun]
  exact exec_idle hs hp

/-- The state after `ADC_OFF` and `SMODE_PD` of a `SLEEP` (R121). -/
def State.sleepStarted (s : State) : State :=
  { s with
    adcEn := false, slpMode := .powerDown, upc := s.upc + 2, tickFeed := s.tickFeed.after 2,
    trace := s.trace ++ [.adc false, .smodePd] }

section SleepRun

variable {s : State} {n : Word} {k : Nat}

theorem stepRun_sleep_start (h : s.RunsSleep n k) (hu : s.upc = 0) (ht : ∀ j < 2, s.tickAt j = false) :
    stepRun 2 s = .next s.sleepStarted := by
  have hoff : (sleepProgram k)[s.upc]? = some .adcOff := by rw [hu]; rfl
  have hmode := step_runsSleep_micro (m := .smodePd) (s := runMicro .adcOff { s with tickFeed := s.tickFeed.next })
    (h.of_changes _ _ _ _ _ _) (ht 1 (by decide)) (by rw [runMicro_adcOff, hu]; rfl)
  rw [stepRun_two (step_runsSleep_micro h (ht 0 (by decide)) hoff) hmode, runMicro_smodePd, runMicro_adcOff]
  simp [State.sleepStarted, Feed.after]

/-- `ADC_ON` and the completion (R121). -/
theorem stepRun_sleep_end (h : s.RunsSleep n k) (hu : s.upc = k + 2) (ht : ∀ j < 2, s.tickAt j = false) :
    stepRun 2 s = .next { s with
      adcEn := true, result := 0#32, seqState := .idle, upc := k + 3, tickFeed := s.tickFeed.after 2,
      trace := s.trace ++ [.adc true, .done 0#32] } := by
  have hdone := step_runsSleep_done (s := runMicro .adcOn { s with tickFeed := s.tickFeed.next })
    (h.of_changes _ _ _ _ _ _) (ht 1 (by decide)) (congrArg (· + 1) hu)
  rw [stepRun_two (step_runsSleep_micro h (ht 0 (by decide)) (sleepProgram_adcOn_iff.mpr hu)) hdone, State.complete_eq,
    runMicro_adcOn]
  simp [hu, Feed.after]

/-- An issued `SLEEP` up to its completion, with one tick in each cycle. -/
theorem stepRun_issued_sleep (h : s.RunsSleep n k) (ha : s.asleep = false) (hu : s.upc = 0)
    (ht : ∀ j < 3 * k + 4, s.tickAt j = decide (2 ≤ j ∧ j < 3 * k + 2 ∧ (j - 2) % 3 = 1)) :
    stepRun (3 * k + 4) s = .next { s with
      adcEn := true, slpMode := .powerDown, result := 0#32, seqState := .idle, upc := k + 3,
      tickFeed := s.tickFeed.after (3 * k + 4),
      trace := s.trace ++ ([.adc false, .smodePd] ++ (List.replicate k [.sleep, .tick, .isr, .wake]).flatten ++
        [.adc true, .done 0#32]) } := by
  have hquiet : ∀ j < 3 * k + 4, j < 2 ∨ 3 * k + 2 ≤ j → s.tickAt j = false := by
    intro j hj hout
    rw [ht j hj, decide_eq_false_iff_not]
    omega
  have hstart := stepRun_sleep_start h hu fun j hj => hquiet j (by omega) (.inl hj)
  have hupc : s.sleepStarted.upc = 2 := congrArg (· + 2) hu
  have hcycles := stepRun_cycles (s := s.sleepStarted) (h.of_changes _ _ _ _ _ _) ha hupc.ge k (by omega)
    fun j hj => by
      rw [tickAt_of_tickFeed (s := s) rfl, ht (2 + j) (by omega), decide_eq_decide]
      omega
  have hticks : ∀ j, (s.sleepStarted.afterCycles k).tickAt j = s.tickAt (2 + 3 * k + j) :=
    tickAt_of_tickFeed (Feed.after_after _ _ _)
  have hend := stepRun_sleep_end (s := s.sleepStarted.afterCycles k) (k := k) (h.of_changes _ _ _ _ _ _)
    (by show s.sleepStarted.upc + k = k + 2; omega)
    fun j hj => (hticks j).trans (hquiet _ (by omega) (.inr (by omega)))
  rw [show 3 * k + 4 = 2 + 3 * k + 2 by omega, stepRun_add 2 ((stepRun_add (3 * k) hstart).trans hcycles), hend]
  simp [State.afterCycles, State.sleepStarted, Feed.after_after]

end SleepRun

end Sys2Proof.Machine
end

section
/-! The statements about a sleeping sequencer and about the run of `SLEEP`. -/

namespace Sys2Proof.Machine

/-- Settles O41: the hold for as many steps as there are, then the tick and the ISR. -/
theorem sleepHoldsUntilIsr : Obligations.SleepHoldsUntilIsr := by
  intro s n k j hb ha hc hk h2 hlt hrun hie hpitIe hpend hbefore htick hafter
  have h : s.RunsSleep n k := ⟨hb, hc, hk, hrun, hie, hpitIe, hpend⟩
  have hhold : ∀ l ≤ j, stepRun l s = .next { s with tickFeed := s.tickFeed.after l } :=
    fun l hl => stepRun_hold h ha h2 hlt l fun i hi => hbefore i (by omega)
  refine ⟨hhold, ?_⟩
  have hwake := stepRun_wake (s := { s with tickFeed := s.tickFeed.after j }) (h.of_changes _ _ _ _ _ _) ha
    ((tickAt_of_tickFeed rfl 0).trans htick) ((tickAt_of_tickFeed rfl 1).trans hafter)
  rw [stepRun_add 2 (hhold j le_rfl), hwake, Feed.after_after]

/-- Settles O35: the host's write issues the command, which then runs with its part of the tick's schedule. -/
theorem sleepRun : Obligations.SleepRun := by
  intro s n k rest hs ha hrun hpitIe hie hpend harg hl hk ht
  have hissue := step_issues_sleep hs hrun hpend harg hl hk (by simpa using ht 0 (by omega))
  have h : (s.sleepIssued n rest).RunsSleep n k :=
    ⟨rfl, current_iff.mpr (decode_sleep_of_cycles hk), hk, hrun, hie, hpitIe, hpend⟩
  have hcommand := stepRun_issued_sleep h ha rfl fun j hj => by
    rw [tickAt_of_tickFeed (s := s) (a := 1) rfl, ht (1 + j) (by omega), decide_eq_decide]
    omega
  refine (stepRun_succ (3 * k + 4) hissue).trans (hcommand.trans (congrArg _ ?_))
  ext1 <;> simp [State.sleepIssued, hs, Feed.after]

end Sys2Proof.Machine
end

section
/-! SUPPORT. The tick and the ISR as rules of the step: what sets each going, and that no other step appends the ISR's
events. -/

namespace Sys2Proof.Machine

/-- The PIT takes a step only while it runs (R131). -/
theorem pitRunning_of_ticksNow {s : State} (h : s.ticksNow = true) : s.pitRunning = true :=
  (Bool.and_eq_true_iff.mp h).1

/-- The ISR's enabling condition as the three enables (R134). -/
theorem isrEnabled_iff (s : State) :
    s.isrEnabled = true ↔ s.ie = true ∧ s.pitIe = true ∧ s.pitPend = true := by
  simp only [State.isrEnabled, Bool.and_eq_true]
  tauto

/-- No micro-op appends an `ISR` or a `WAKE`. -/
theorem runMicro_events (m : MicroOp) (s : State) :
    ∃ evs, (runMicro m s).trace = s.trace ++ evs ∧ .isr ∉ evs ∧ .wake ∉ evs := by
  cases m with
  | msWait d => exact ⟨[.ms s.msNow], by rw [runMicro_msWait], by simp, by simp⟩
  | msPoll d => exact ⟨[.ms s.msNow], by rw [runMicro_msPoll], by simp, by simp⟩
  | pitSync => exact ⟨[.pitSync s.syncNow], by rw [runMicro_pitSync], by simp, by simp⟩
  | slpWait =>
    refine ⟨if s.asleep then [] else [.sleep], by rw [runMicro_slpWait], ?_, ?_⟩ <;> split <;> simp
  | _ => exact ⟨[_], rfl, by simp, by simp⟩

/-- Only the ISR's step appends an `ISR` or a `WAKE` (R136). -/
theorem stepForm_events {s t : State} (h : StepForm s t) :
    s.isrTurn ∨ ∃ evs, t.trace = s.trace ++ evs ∧ .isr ∉ evs ∧ .wake ∉ evs := by
  cases h with
  | isr hi => exact .inl hi
  | tick _ => exact .inr ⟨[.tick], by simp⟩
  | @micro i μ m _ _ _ _ => exact .inr (by simpa using runMicro_events m s.tickChosen)
  | @complete i μ _ _ _ _ => exact .inr ⟨[.done (i.resultOf s.tickChosen)], by simp⟩
  | hostDone _ _ => exact .inr ⟨[], by simp⟩
  | @hostRead off rest _ _ => exact .inr ⟨[.rd off], by simp⟩
  | @hostWrite off v rest _ _ _ => exact .inr ⟨[.wr off v], by simp⟩
  | @hostIssue v rest i _ _ _ => exact .inr ⟨[.wr 0x4#4 v, .cmd i.opcode i.argument], by simp⟩
  | @hostError v rest e _ _ _ => exact .inr ⟨[.wr 0x4#4 v, .err (errCode e)], by simp⟩
  | @hostSetIe v rest _ _ => exact .inr ⟨[.irq v], by simp⟩

/-! ### Ticks in a row -/

/-- The state after n + 1 ticks (R131, R132). -/
def State.ticked (s : State) (n : Nat) : State :=
  { s with
    pitPend := true, tickFeed := s.tickFeed.after (n + 1), trace := s.trace ++ List.replicate (n + 1) .tick }

/-- A tick of a pending condition changes the trace and uses up its choice. -/
theorem State.ticked_succ (s : State) (n : Nat) : s.ticked (n + 1) =
    { s.ticked n with
      tickFeed := (s.ticked n).tickFeed.next, pitPend := true, trace := (s.ticked n).trace ++ [.tick] } := by
  simp [ticked, Feed.next_after, List.replicate_succ' (n := n + 1)]

theorem stepRun_ticks {s : State} (hrun : s.pitRunning = true) (n : Nat) (ht : ∀ j ≤ n, s.tickAt j = true) :
    stepRun (n + 1) s = .next (s.ticked n) := by
  induction n with
  | zero => exact stepRun_succ 0 (step_running_tick hrun (ht 0 le_rfl))
  | succ n ih =>
    have hnow : (s.ticked n).tickAt 0 = true := (tickAt_of_tickFeed rfl 0).trans (ht (n + 1) le_rfl)
    rw [stepRun_snoc (ih fun j hj => ht j (Nat.le_succ_of_le hj)), State.ticked_succ]
    exact step_running_tick hrun hnow

/-! ### The end of a byte operation -/

/-- The last micro-op of a byte operation is `IRQ_ON` (R103, R104). -/
theorem masksIrq_program_last {i : Instr} {p : Params} {μ : List MicroOp} {u : Nat} (hi : i.masksIrq = true)
    (hp : i.program p = some μ) (hu : u + 1 = μ.length) : μ[u]? = some .irqOn := by
  obtain ⟨body, rfl, -⟩ := masksIrq_program hi hp
  obtain rfl : u = body.length + 1 := by simpa using hu
  simp

/-- `IRQ_ON` sets `IE` under `ENABLE`, and under `RESTORE` where it was saved set (R93). -/
theorem ieByOn_eq_true {s : State} (h : s.params.irqResume = .enable ∨ s.ieSaved = true) : s.ieByOn = true := by
  unfold State.ieByOn
  rcases h with h | h
  · simp [h]
  · split <;> simp [h]

end Sys2Proof.Machine
end

section
/-! The statements about the tick and the ISR. -/

namespace Sys2Proof.Machine

/-- Settles O36: the tick of a running timer, with its choice drawn and with its choice planned. -/
theorem tickSetsPending : Obligations.TickSetsPending := by
  refine ⟨fun s ht => ?_, fun s l hrun => ?_⟩
  · have hrun := pitRunning_of_ticksNow ht
    exact ⟨hrun, step_running_tick hrun ((ticksNow_of_running hrun).symm.trans ht)⟩
  · exact step_running_tick (s := { s with tickFeed := { planned := true :: l, ix := s.tickFeed.ix } }) hrun rfl

/-- Settles O37: the ISR's record, and, of all steps, no other appends its events. -/
theorem isrStep : Obligations.IsrStep := by
  refine ⟨fun s ht hie hpitIe hpend => ?_, fun s t evs h htrace hmem => ?_⟩
  · rw [step_isr ⟨ht, (isrEnabled_iff s).mpr ⟨hie, hpitIe, hpend⟩⟩, State.takeIsr_eq]
    simp
  · rcases stepForm_events (stepForm_of_step h) with ⟨ht, hen⟩ | ⟨evs', htrace', hisr, hwake⟩
    · exact ⟨ht, (isrEnabled_iff s).mp hen⟩
    · obtain rfl : evs' = evs := List.append_cancel_left (htrace'.symm.trans htrace)
      exact absurd hmem (not_or.mpr ⟨hisr, hwake⟩)

/-- Settles O38: the ticks in a row leave one pending condition, which the ISR clears. -/
theorem ticksCoalesce : Obligations.TicksCoalesce := by
  intro s n hrun hie hpitIe hticks hlast
  have hnow : (s.ticked n).tickAt 0 = false := (tickAt_of_tickFeed rfl 0).trans hlast
  have hisr := step_running_isr (s := s.ticked n) hrun hnow ((isrEnabled_iff _).mpr ⟨hie, hpitIe, rfl⟩)
  rw [stepRun_snoc (stepRun_ticks hrun n hticks), hisr, State.takeIsr_eq]
  cases ha : s.asleep <;> simp [State.ticked, Feed.next_after, ha]

/-- Settles O40: `IRQ_ON` completes the ISR's enabling condition and moves on to the completion step. -/
theorem irqOnThenIsr : Obligations.IrqOnThenIsr := by
  intro s t i μ hs hc hi hp hlast hpend hpitIe ha hresume h
  have hm : μ[s.tickChosen.upc]? = some .irqOn := by simpa using masksIrq_program_last hi hp hlast
  rw [step_seq hs, seqStep_current (by simpa using hc), exec_micro (by simpa using hs.2.2) (by simpa using hp) hm] at h
  cases h
  have hie : s.tickChosen.ieByOn = true := ieByOn_eq_true (by simpa using hresume)
  refine ⟨hie, by simpa [runMicro_irqOn] using hlast, fun ht => ?_⟩
  have hen : (runMicro .irqOn s.tickChosen).isrEnabled = true :=
    (isrEnabled_iff _).mpr ⟨hie, by simpa [runMicro_irqOn] using hpitIe, by simpa using hpend⟩
  refine ⟨_, step_isr ⟨ht, hen⟩, by simp, ?_, ?_, ?_⟩
  · simpa [State.takeIsr_upc, runMicro_irqOn, ha] using hlast
  · simpa using hs.2.2
  · simp [State.takeIsr_trace, runMicro_irqOn, ha]

end Sys2Proof.Machine
end

section
/-! SUPPORT. The steps of a sleeping block, and that no action of the host faults. -/

namespace Sys2Proof.Machine

/-- Every step of a sleeping block is a tick, the ISR or the hold (R118, R136). -/
theorem step_asleep {s : State} (hinv : s.Inv) (ha : s.asleep = true) :
    step s = .next s.tickChosen.tick ∨ step s = .next s.tickChosen.takeIsr ∨ step s = .next s.tickChosen := by
  obtain ⟨-, hasleep, -⟩ := hinv
  obtain ⟨hb, n, k, hc, hk, h2, hlt⟩ := hasleep ha
  rcases turn_cases s with ht | hi | hs | hh
  · exact .inl (step_tick ht)
  · exact .inr (.inl (step_isr hi))
  · have hp : (Instr.sleep n).program s.tickChosen.params = some (sleepProgram k) := by simp [Instr.program, hk]
    have hm : (sleepProgram k)[s.tickChosen.upc]? = some .slpWait := by
      simpa using sleepProgram_slpWait_iff.mpr ⟨h2, hlt⟩
    have hhold : step s = .next s.tickChosen := by
      rw [step_seq hs, seqStep_current (by simpa using hc), exec_micro (by simpa using hb) hp hm,
        runMicro_slpWait_asleep (by simpa using ha)]
    exact .inr (.inr hhold)
  · exact absurd (hb.symm.trans hh.2.2) (by decide)

/-- An issue or a command error answers a write of `OP` (R56, R128). -/
theorem hostIssue_ne_fault {s : State} (hs : s.seqState = .idle) (v : Byte) (f : Fault) :
    hostIssue s v ≠ .fault f := by
  unfold hostIssue
  split
  · obtain ⟨μ, hp⟩ := program_of_decode ‹_›
    rw [exec_idle (by simpa using hs) (by simpa using hp)]
    simp
  · simp

/-- No action of the host faults (R126). -/
theorem hostAct_ne_fault {s : State} (hs : s.seqState = .idle) (a : HostAction) (f : Fault) :
    hostAct a s ≠ .fault f := by
  cases a with
  | setIe v => simp [hostAct]
  | read w off => by_cases hw : w = 1 <;> simp [hostAct, hw]
  | write w off v =>
    by_cases hw : w = 1
    · by_cases hoff : off = 0x4#4
      · simp [hostAct, hw, hoff, hostIssue_ne_fault hs]
      · simp [hostAct, hw, hoff]
    · simp [hostAct, hw]

end Sys2Proof.Machine
end

section
/-! The statements about every step from a state that meets the invariant: what a sleep leaves alone, and that no step
faults. -/

namespace Sys2Proof.Machine

/-- Settles O43: neither the tick, the ISR nor the hold writes another field, and the window shows registers only. -/
theorem stateSurvivesSleep : Obligations.StateSurvivesSleep := by
  intro s t hinv ha h
  rcases step_asleep hinv ha with heq | heq | heq <;> rw [heq] at h <;> cases h <;>
    simp [State.windowRead, State.status]

/-- Settles O58, agent by agent: a busy sequencer stands in the program of its current command, where every command
answers, and neither the tick, the ISR nor the host's action faults. -/
theorem noFaultFromInvariant : Obligations.NoFaultFromInvariant := by
  intro s f hinv
  rcases turn_cases s with ht | hi | hs | hh
  · simp [step_tick ht]
  · simp [step_isr hi]
  · obtain ⟨hseq, -⟩ := hinv
    obtain ⟨i, μ, hc, hp, hu⟩ := hseq hs.2.2
    obtain ⟨t, ht, -⟩ := everyCommandAnswers i μ s.tickChosen (by simpa using hp) (.inr (by simpa using ⟨hs.2.2, hu⟩))
    rw [step_seq hs, seqStep_current (by simpa using hc), ht]
    simp
  · cases hl : s.script with
    | nil => simp [step_host hh, hostStep, hl]
    | cons a rest =>
      rw [step_hostAct hh hl]
      exact hostAct_ne_fault (by simpa using hh.2.2) a f

end Sys2Proof.Machine
end

section
/-! SUPPORT. The sleep that no interrupt ends: what bars the ISR, and the step of a sleeping block in which it is
barred. -/

namespace Sys2Proof.Machine

/-- What bars the ISR for as long as the block sleeps (R166): an enable is clear, or nothing is pending and no tick can
come. -/
def State.isrBarred (s : State) : Prop :=
  s.ie = false ∨ s.pitIe = false ∨ (s.pitRunning = false ∧ s.pitPend = false)

theorem State.isrBarred.isrEnabled {s : State} (h : s.isrBarred) : s.isrEnabled = false :=
  isrEnabled_eq_false (h.imp_right (Or.imp_right And.right))

theorem State.isrBarred.tickChosen {s : State} (h : s.isrBarred) : s.tickChosen.isrBarred := by
  simpa [State.isrBarred] using h

/-- A tick needs the timer running, so it leaves an enable clear that was clear before. -/
theorem State.isrBarred.tick {s : State} (h : s.isrBarred) (ht : s.ticksNow = true) : s.tickChosen.tick.isrBarred := by
  rcases h with hie | hpitIe | ⟨hstopped, -⟩
  · exact .inl (by simpa using hie)
  · exact .inr (.inl (by simpa using hpitIe))
  · exact absurd (pitRunning_of_ticksNow ht) (by simp [hstopped])

/-- On the sequencer's turn a sleeping `SLEEP` holds: the step uses up the tick's choice only (R118, log entry 3). -/
theorem step_hold {s : State} {n : Word} {k : Nat} (hs : s.seqTurn) (ha : s.asleep = true)
    (hc : s.current = some (.sleep n)) (hk : cycles s.params n = some k) (h2 : 2 ≤ s.upc) (hlt : s.upc < k + 2) :
    step s = .next s.tickChosen := by
  have hp : (Instr.sleep n).program s.tickChosen.params = some (sleepProgram k) := by simp [Instr.program, hk]
  have hm : (sleepProgram k)[s.tickChosen.upc]? = some .slpWait := by
    simpa using sleepProgram_slpWait_iff.mpr ⟨h2, hlt⟩
  rw [step_seq hs, seqStep_current (by simpa using hc), exec_micro (by simpa using hs.2.2) hp hm,
    runMicro_slpWait_asleep (by simpa using ha)]

end Sys2Proof.Machine
end

section
/-! The statement about the sleep that no interrupt ends. -/

namespace Sys2Proof.Machine

/-- Settles O42: with the ISR barred the step is a tick or the hold, and either leaves it barred. -/
theorem sleepStuckWithoutInterrupt : Obligations.SleepStuckWithoutInterrupt := by
  intro s n k hb ha hc hk h2 hlt (hbar : s.isrBarred)
  cases ht : s.ticksNow with
  | true => exact ⟨_, step_tick ht, hbar.tick ht, by simp⟩
  | false => exact ⟨_, step_hold ⟨ht, hbar.isrEnabled, hb⟩ ha hc hk h2 hlt, hbar.tickChosen, by simp⟩

end Sys2Proof.Machine
end
